-- ==== Sys2Proof/Word.lean ====
section
/-! DEFINITION. The word types (spec/00_scope.md R6, R9): 8-bit bytes and 16-bit addresses. Their
`+` and `-` are the spec's `+_8`, `-_8` and `+_16`, `-_16`: addition and subtraction modulo 256 and
modulo 65536. -/

namespace Sys2Proof

/-- `u8`, an unsigned 8-bit value (R9). -/
abbrev Byte := BitVec 8

/-- `u16`, an unsigned 16-bit value: an address, or a 16-bit quantity in memory (R9). -/
abbrev Addr := BitVec 16

end Sys2Proof
end

