-- ==== Sys2Proof/Config.lean ====
section
/-! DEFINITION. What the spec leaves open: the three named parameters of spec/00_scope.md R7, and the
free value that stands for a byte of memory nobody has written (spec/70_reset_and_hazards.md R295). -/

namespace Sys2Proof

/-- The named parameters of R7. The spec's source leaves each open; the model carries them as plain
data (assumption 6), so that a claim about every state is a claim about every setting. -/
structure Config where
  /-- `UNIMPL_CYCLES`: base cycle count of the placeholder entry (decision D3). -/
  unimplCycles : Nat
  /-- `INDIRECT_PAGE_WRAP`: whether the Indirect mode reads the pointer's high byte from the same page
  when the pointer's low byte is 0xFF (decision D4). -/
  indirectPageWrap : Bool
  /-- `EXTRA_NOP_OPCODES`: the opcode values for which NOP signals a possible extra cycle (decision D5). -/
  extraNopOpcodes : List Byte
  deriving DecidableEq, Repr

/-- The defaults of R7. -/
def Config.default : Config :=
  { unimplCycles := 2
    indirectPageWrap := false
    extraNopOpcodes := [0x1C, 0x3C, 0x5C, 0x7C, 0xDC, 0xFC] }

/-- "`UNIMPL_CYCLES` must be at least 1" (R7). -/
abbrev Config.wf (c : Config) : Prop := 1 ≤ c.unimplCycles

/-- FREE VALUE: the byte a memory address holds at launch, before anything wrote it. The spec gives it
no value and says "never zero" (R295, decision D22, U4), so it has no body (assumption 1). -/
opaque Config.launchByte : Nat → Byte

end Sys2Proof
end

