-- ==== Sys2Proof/Machine/Bits.lean ====
section
/-! DEFINITION. The bit-field, extension and byte-order helpers of spec/00_scope.md R9. -/

namespace Sys2Proof.Machine

/-- `hi ## lo`: the `u16` with high byte `hi` and low byte `lo` (R9). -/
def join (hi lo : Byte) : Addr := hi ++ lo

/-- `a[15:8]`, the high byte, which is also `page(a)` (R9). -/
def hiByte (a : Addr) : Byte := a.extractLsb' 8 8

/-- `a[7:0]`, the low byte (R9). -/
def loByte (a : Addr) : Byte := a.extractLsb' 0 8

/-- `zext_16(b)` (R9). -/
def zext16 (b : Byte) : Addr := b.setWidth 16

/-- `sext_16(b)`: `b` if `b[7] = 0`, `0xFF00 | b` if `b[7] = 1` (R9). -/
def sext16 (b : Byte) : Addr := b.signExtend 16

/-- Two addresses lie in different pages: their bits 15 to 8 differ (R9, glossary of 00_scope.md). -/
def otherPage (a b : Addr) : Bool := hiByte a != hiByte b

end Sys2Proof.Machine
end

