-- ==== Sys2Proof/Syntax.lean ====
section
/-! DEFINITION. The instructions: one constructor of `Instr` for each assigned row of
spec/opcode_table.json (151 rows, spec/30_encoding.md R87, R88), and one for the 105 rows that are the
same placeholder entry (R89). A constructor's argument is what the row's operand bytes hold (R81, R83). -/

namespace Sys2Proof

/-- The twelve addressing modes, by their tags (R81). -/
inductive Mode where
  | imp | imm | zp0 | zpx | zpy | abs | abx | aby | ind | izx | izy | rel
  deriving DecidableEq, Repr

/-- Operand byte count by mode (R82). -/
def Mode.operandBytes : Mode → Nat
  | .imp => 0
  | .imm | .zp0 | .zpx | .zpy | .izx | .izy | .rel => 1
  | .abs | .abx | .aby | .ind => 2

/-- The operation tags of the decode ROM (R85, R86): the 56 operations, and `xxx`, the no-effect
operation of the placeholder. -/
inductive Op where
  | lda | ldx | ldy | sta | stx | sty
  | adc | sbc | cmp | cpx | cpy
  | and | ora | eor | bit
  | asl | lsr | rol | ror
  | inc | dec | inx | dex | iny | dey
  | bcc | bcs | beq | bne | bmi | bpl | bvc | bvs | jmp | jsr | rts
  | pha | php | pla | plp | sec | clc | sed | cld | sei | cli | clv | tax | tay | txa | tya | tsx | txs
  | brk | rti | nop
  | xxx
  deriving DecidableEq, Repr

/-- An operand form: the addressing mode together with the assembled operand bytes (R81, R83). -/
inductive Operand where
  | implied
  | immediate (imm8 : Byte)
  | zeroPage (zp8 : Byte)
  | zeroPageX (zp8 : Byte)
  | zeroPageY (zp8 : Byte)
  | absolute (abs16 : Addr)
  | absoluteX (abs16 : Addr)
  | absoluteY (abs16 : Addr)
  | indirect (ptr16 : Addr)
  | indexedIndirectX (zp8 : Byte)
  | indirectIndexedY (zp8 : Byte)
  | relative (rel8 : Byte)
  deriving DecidableEq, Repr

/-- The addressing mode of an operand form. -/
def Operand.mode : Operand → Mode
  | .implied => .imp
  | .immediate _ => .imm
  | .zeroPage _ => .zp0
  | .zeroPageX _ => .zpx
  | .zeroPageY _ => .zpy
  | .absolute _ => .abs
  | .absoluteX _ => .abx
  | .absoluteY _ => .aby
  | .indirect _ => .ind
  | .indexedIndirectX _ => .izx
  | .indirectIndexedY _ => .izy
  | .relative _ => .rel

/-- The instructions, by rows of the opcode table. -/
inductive Instr where
  /-- 0xA9 `LDA #imm8` (IMM, R150) -/
  | ldaImm (imm8 : Byte)
  /-- 0xA5 `LDA zp8` (ZP0, R150) -/
  | ldaZp0 (zp8 : Byte)
  /-- 0xB5 `LDA zp8,X` (ZPX, R150) -/
  | ldaZpx (zp8 : Byte)
  /-- 0xAD `LDA abs16` (ABS, R150) -/
  | ldaAbs (abs16 : Addr)
  /-- 0xBD `LDA abs16,X` (ABX, R150) -/
  | ldaAbx (abs16 : Addr)
  /-- 0xB9 `LDA abs16,Y` (ABY, R150) -/
  | ldaAby (abs16 : Addr)
  /-- 0xA1 `LDA (zp8,X)` (IZX, R150) -/
  | ldaIzx (zp8 : Byte)
  /-- 0xB1 `LDA (zp8),Y` (IZY, R150) -/
  | ldaIzy (zp8 : Byte)
  /-- 0xA2 `LDX #imm8` (IMM, R151) -/
  | ldxImm (imm8 : Byte)
  /-- 0xA6 `LDX zp8` (ZP0, R151) -/
  | ldxZp0 (zp8 : Byte)
  /-- 0xB6 `LDX zp8,Y` (ZPY, R151) -/
  | ldxZpy (zp8 : Byte)
  /-- 0xAE `LDX abs16` (ABS, R151) -/
  | ldxAbs (abs16 : Addr)
  /-- 0xBE `LDX abs16,Y` (ABY, R151) -/
  | ldxAby (abs16 : Addr)
  /-- 0xA0 `LDY #imm8` (IMM, R152) -/
  | ldyImm (imm8 : Byte)
  /-- 0xA4 `LDY zp8` (ZP0, R152) -/
  | ldyZp0 (zp8 : Byte)
  /-- 0xB4 `LDY zp8,X` (ZPX, R152) -/
  | ldyZpx (zp8 : Byte)
  /-- 0xAC `LDY abs16` (ABS, R152) -/
  | ldyAbs (abs16 : Addr)
  /-- 0xBC `LDY abs16,X` (ABX, R152) -/
  | ldyAbx (abs16 : Addr)
  /-- 0x85 `STA zp8` (ZP0, R153) -/
  | staZp0 (zp8 : Byte)
  /-- 0x95 `STA zp8,X` (ZPX, R153) -/
  | staZpx (zp8 : Byte)
  /-- 0x8D `STA abs16` (ABS, R153) -/
  | staAbs (abs16 : Addr)
  /-- 0x9D `STA abs16,X` (ABX, R153) -/
  | staAbx (abs16 : Addr)
  /-- 0x99 `STA abs16,Y` (ABY, R153) -/
  | staAby (abs16 : Addr)
  /-- 0x81 `STA (zp8,X)` (IZX, R153) -/
  | staIzx (zp8 : Byte)
  /-- 0x91 `STA (zp8),Y` (IZY, R153) -/
  | staIzy (zp8 : Byte)
  /-- 0x86 `STX zp8` (ZP0, R154) -/
  | stxZp0 (zp8 : Byte)
  /-- 0x96 `STX zp8,Y` (ZPY, R154) -/
  | stxZpy (zp8 : Byte)
  /-- 0x8E `STX abs16` (ABS, R154) -/
  | stxAbs (abs16 : Addr)
  /-- 0x84 `STY zp8` (ZP0, R155) -/
  | styZp0 (zp8 : Byte)
  /-- 0x94 `STY zp8,X` (ZPX, R155) -/
  | styZpx (zp8 : Byte)
  /-- 0x8C `STY abs16` (ABS, R155) -/
  | styAbs (abs16 : Addr)
  /-- 0x69 `ADC #imm8` (IMM, R161) -/
  | adcImm (imm8 : Byte)
  /-- 0x65 `ADC zp8` (ZP0, R161) -/
  | adcZp0 (zp8 : Byte)
  /-- 0x75 `ADC zp8,X` (ZPX, R161) -/
  | adcZpx (zp8 : Byte)
  /-- 0x6D `ADC abs16` (ABS, R161) -/
  | adcAbs (abs16 : Addr)
  /-- 0x7D `ADC abs16,X` (ABX, R161) -/
  | adcAbx (abs16 : Addr)
  /-- 0x79 `ADC abs16,Y` (ABY, R161) -/
  | adcAby (abs16 : Addr)
  /-- 0x61 `ADC (zp8,X)` (IZX, R161) -/
  | adcIzx (zp8 : Byte)
  /-- 0x71 `ADC (zp8),Y` (IZY, R161) -/
  | adcIzy (zp8 : Byte)
  /-- 0xE9 `SBC #imm8` (IMM, R162) -/
  | sbcImm (imm8 : Byte)
  /-- 0xE5 `SBC zp8` (ZP0, R162) -/
  | sbcZp0 (zp8 : Byte)
  /-- 0xF5 `SBC zp8,X` (ZPX, R162) -/
  | sbcZpx (zp8 : Byte)
  /-- 0xED `SBC abs16` (ABS, R162) -/
  | sbcAbs (abs16 : Addr)
  /-- 0xFD `SBC abs16,X` (ABX, R162) -/
  | sbcAbx (abs16 : Addr)
  /-- 0xF9 `SBC abs16,Y` (ABY, R162) -/
  | sbcAby (abs16 : Addr)
  /-- 0xE1 `SBC (zp8,X)` (IZX, R162) -/
  | sbcIzx (zp8 : Byte)
  /-- 0xF1 `SBC (zp8),Y` (IZY, R162) -/
  | sbcIzy (zp8 : Byte)
  /-- 0xC9 `CMP #imm8` (IMM, R163) -/
  | cmpImm (imm8 : Byte)
  /-- 0xC5 `CMP zp8` (ZP0, R163) -/
  | cmpZp0 (zp8 : Byte)
  /-- 0xD5 `CMP zp8,X` (ZPX, R163) -/
  | cmpZpx (zp8 : Byte)
  /-- 0xCD `CMP abs16` (ABS, R163) -/
  | cmpAbs (abs16 : Addr)
  /-- 0xDD `CMP abs16,X` (ABX, R163) -/
  | cmpAbx (abs16 : Addr)
  /-- 0xD9 `CMP abs16,Y` (ABY, R163) -/
  | cmpAby (abs16 : Addr)
  /-- 0xC1 `CMP (zp8,X)` (IZX, R163) -/
  | cmpIzx (zp8 : Byte)
  /-- 0xD1 `CMP (zp8),Y` (IZY, R163) -/
  | cmpIzy (zp8 : Byte)
  /-- 0xE0 `CPX #imm8` (IMM, R164) -/
  | cpxImm (imm8 : Byte)
  /-- 0xE4 `CPX zp8` (ZP0, R164) -/
  | cpxZp0 (zp8 : Byte)
  /-- 0xEC `CPX abs16` (ABS, R164) -/
  | cpxAbs (abs16 : Addr)
  /-- 0xC0 `CPY #imm8` (IMM, R165) -/
  | cpyImm (imm8 : Byte)
  /-- 0xC4 `CPY zp8` (ZP0, R165) -/
  | cpyZp0 (zp8 : Byte)
  /-- 0xCC `CPY abs16` (ABS, R165) -/
  | cpyAbs (abs16 : Addr)
  /-- 0x29 `AND #imm8` (IMM, R170) -/
  | andImm (imm8 : Byte)
  /-- 0x25 `AND zp8` (ZP0, R170) -/
  | andZp0 (zp8 : Byte)
  /-- 0x35 `AND zp8,X` (ZPX, R170) -/
  | andZpx (zp8 : Byte)
  /-- 0x2D `AND abs16` (ABS, R170) -/
  | andAbs (abs16 : Addr)
  /-- 0x3D `AND abs16,X` (ABX, R170) -/
  | andAbx (abs16 : Addr)
  /-- 0x39 `AND abs16,Y` (ABY, R170) -/
  | andAby (abs16 : Addr)
  /-- 0x21 `AND (zp8,X)` (IZX, R170) -/
  | andIzx (zp8 : Byte)
  /-- 0x31 `AND (zp8),Y` (IZY, R170) -/
  | andIzy (zp8 : Byte)
  /-- 0x09 `ORA #imm8` (IMM, R171) -/
  | oraImm (imm8 : Byte)
  /-- 0x05 `ORA zp8` (ZP0, R171) -/
  | oraZp0 (zp8 : Byte)
  /-- 0x15 `ORA zp8,X` (ZPX, R171) -/
  | oraZpx (zp8 : Byte)
  /-- 0x0D `ORA abs16` (ABS, R171) -/
  | oraAbs (abs16 : Addr)
  /-- 0x1D `ORA abs16,X` (ABX, R171) -/
  | oraAbx (abs16 : Addr)
  /-- 0x19 `ORA abs16,Y` (ABY, R171) -/
  | oraAby (abs16 : Addr)
  /-- 0x01 `ORA (zp8,X)` (IZX, R171) -/
  | oraIzx (zp8 : Byte)
  /-- 0x11 `ORA (zp8),Y` (IZY, R171) -/
  | oraIzy (zp8 : Byte)
  /-- 0x49 `EOR #imm8` (IMM, R172) -/
  | eorImm (imm8 : Byte)
  /-- 0x45 `EOR zp8` (ZP0, R172) -/
  | eorZp0 (zp8 : Byte)
  /-- 0x55 `EOR zp8,X` (ZPX, R172) -/
  | eorZpx (zp8 : Byte)
  /-- 0x4D `EOR abs16` (ABS, R172) -/
  | eorAbs (abs16 : Addr)
  /-- 0x5D `EOR abs16,X` (ABX, R172) -/
  | eorAbx (abs16 : Addr)
  /-- 0x59 `EOR abs16,Y` (ABY, R172) -/
  | eorAby (abs16 : Addr)
  /-- 0x41 `EOR (zp8,X)` (IZX, R172) -/
  | eorIzx (zp8 : Byte)
  /-- 0x51 `EOR (zp8),Y` (IZY, R172) -/
  | eorIzy (zp8 : Byte)
  /-- 0x24 `BIT zp8` (ZP0, R173) -/
  | bitZp0 (zp8 : Byte)
  /-- 0x2C `BIT abs16` (ABS, R173) -/
  | bitAbs (abs16 : Addr)
  /-- 0x0A `ASL` (IMP, R181) -/
  | aslImp
  /-- 0x06 `ASL zp8` (ZP0, R181) -/
  | aslZp0 (zp8 : Byte)
  /-- 0x16 `ASL zp8,X` (ZPX, R181) -/
  | aslZpx (zp8 : Byte)
  /-- 0x0E `ASL abs16` (ABS, R181) -/
  | aslAbs (abs16 : Addr)
  /-- 0x1E `ASL abs16,X` (ABX, R181) -/
  | aslAbx (abs16 : Addr)
  /-- 0x4A `LSR` (IMP, R182) -/
  | lsrImp
  /-- 0x46 `LSR zp8` (ZP0, R182) -/
  | lsrZp0 (zp8 : Byte)
  /-- 0x56 `LSR zp8,X` (ZPX, R182) -/
  | lsrZpx (zp8 : Byte)
  /-- 0x4E `LSR abs16` (ABS, R182) -/
  | lsrAbs (abs16 : Addr)
  /-- 0x5E `LSR abs16,X` (ABX, R182) -/
  | lsrAbx (abs16 : Addr)
  /-- 0x2A `ROL` (IMP, R183) -/
  | rolImp
  /-- 0x26 `ROL zp8` (ZP0, R183) -/
  | rolZp0 (zp8 : Byte)
  /-- 0x36 `ROL zp8,X` (ZPX, R183) -/
  | rolZpx (zp8 : Byte)
  /-- 0x2E `ROL abs16` (ABS, R183) -/
  | rolAbs (abs16 : Addr)
  /-- 0x3E `ROL abs16,X` (ABX, R183) -/
  | rolAbx (abs16 : Addr)
  /-- 0x6A `ROR` (IMP, R184) -/
  | rorImp
  /-- 0x66 `ROR zp8` (ZP0, R184) -/
  | rorZp0 (zp8 : Byte)
  /-- 0x76 `ROR zp8,X` (ZPX, R184) -/
  | rorZpx (zp8 : Byte)
  /-- 0x6E `ROR abs16` (ABS, R184) -/
  | rorAbs (abs16 : Addr)
  /-- 0x7E `ROR abs16,X` (ABX, R184) -/
  | rorAbx (abs16 : Addr)
  /-- 0xE6 `INC zp8` (ZP0, R190) -/
  | incZp0 (zp8 : Byte)
  /-- 0xF6 `INC zp8,X` (ZPX, R190) -/
  | incZpx (zp8 : Byte)
  /-- 0xEE `INC abs16` (ABS, R190) -/
  | incAbs (abs16 : Addr)
  /-- 0xFE `INC abs16,X` (ABX, R190) -/
  | incAbx (abs16 : Addr)
  /-- 0xC6 `DEC zp8` (ZP0, R191) -/
  | decZp0 (zp8 : Byte)
  /-- 0xD6 `DEC zp8,X` (ZPX, R191) -/
  | decZpx (zp8 : Byte)
  /-- 0xCE `DEC abs16` (ABS, R191) -/
  | decAbs (abs16 : Addr)
  /-- 0xDE `DEC abs16,X` (ABX, R191) -/
  | decAbx (abs16 : Addr)
  /-- 0xE8 `INX` (IMP, R192) -/
  | inx
  /-- 0xCA `DEX` (IMP, R193) -/
  | dex
  /-- 0xC8 `INY` (IMP, R194) -/
  | iny
  /-- 0x88 `DEY` (IMP, R195) -/
  | dey
  /-- 0x90 `BCC rel8` (REL, R201) -/
  | bcc (rel8 : Byte)
  /-- 0xB0 `BCS rel8` (REL, R202) -/
  | bcs (rel8 : Byte)
  /-- 0xF0 `BEQ rel8` (REL, R203) -/
  | beq (rel8 : Byte)
  /-- 0xD0 `BNE rel8` (REL, R204) -/
  | bne (rel8 : Byte)
  /-- 0x30 `BMI rel8` (REL, R205) -/
  | bmi (rel8 : Byte)
  /-- 0x10 `BPL rel8` (REL, R206) -/
  | bpl (rel8 : Byte)
  /-- 0x50 `BVC rel8` (REL, R207) -/
  | bvc (rel8 : Byte)
  /-- 0x70 `BVS rel8` (REL, R208) -/
  | bvs (rel8 : Byte)
  /-- 0x4C `JMP abs16` (ABS, R209) -/
  | jmpAbs (abs16 : Addr)
  /-- 0x6C `JMP (ptr16)` (IND, R209) -/
  | jmpInd (ptr16 : Addr)
  /-- 0x20 `JSR abs16` (ABS, R210) -/
  | jsr (abs16 : Addr)
  /-- 0x60 `RTS` (IMP, R211) -/
  | rts
  /-- 0x48 `PHA` (IMP, R220) -/
  | pha
  /-- 0x08 `PHP` (IMP, R221) -/
  | php
  /-- 0x68 `PLA` (IMP, R222) -/
  | pla
  /-- 0x28 `PLP` (IMP, R223) -/
  | plp
  /-- 0x38 `SEC` (IMP, R224) -/
  | sec
  /-- 0x18 `CLC` (IMP, R225) -/
  | clc
  /-- 0xF8 `SED` (IMP, R226) -/
  | sed
  /-- 0xD8 `CLD` (IMP, R227) -/
  | cld
  /-- 0x78 `SEI` (IMP, R228) -/
  | sei
  /-- 0x58 `CLI` (IMP, R229) -/
  | cli
  /-- 0xB8 `CLV` (IMP, R230) -/
  | clv
  /-- 0xAA `TAX` (IMP, R231) -/
  | tax
  /-- 0xA8 `TAY` (IMP, R232) -/
  | tay
  /-- 0x8A `TXA` (IMP, R233) -/
  | txa
  /-- 0x98 `TYA` (IMP, R234) -/
  | tya
  /-- 0xBA `TSX` (IMP, R235) -/
  | tsx
  /-- 0x9A `TXS` (IMP, R236) -/
  | txs
  /-- 0x00 `BRK` (IMP, R250) -/
  | brk
  /-- 0x40 `RTI` (IMP, R251) -/
  | rti
  /-- 0xEA `NOP` (IMP, R252) -/
  | nop
  /-- `???`, the placeholder each of the 105 unassigned opcode bytes decodes to (R89, R253). -/
  | unimplemented (opcode : Byte)
  deriving DecidableEq, Repr

/-- The operation and the operand form each row of the opcode table stands for (R88). -/
def Instr.form : Instr → Op × Operand
  | .ldaImm imm8 => (.lda, .immediate imm8)
  | .ldaZp0 zp8 => (.lda, .zeroPage zp8)
  | .ldaZpx zp8 => (.lda, .zeroPageX zp8)
  | .ldaAbs abs16 => (.lda, .absolute abs16)
  | .ldaAbx abs16 => (.lda, .absoluteX abs16)
  | .ldaAby abs16 => (.lda, .absoluteY abs16)
  | .ldaIzx zp8 => (.lda, .indexedIndirectX zp8)
  | .ldaIzy zp8 => (.lda, .indirectIndexedY zp8)
  | .ldxImm imm8 => (.ldx, .immediate imm8)
  | .ldxZp0 zp8 => (.ldx, .zeroPage zp8)
  | .ldxZpy zp8 => (.ldx, .zeroPageY zp8)
  | .ldxAbs abs16 => (.ldx, .absolute abs16)
  | .ldxAby abs16 => (.ldx, .absoluteY abs16)
  | .ldyImm imm8 => (.ldy, .immediate imm8)
  | .ldyZp0 zp8 => (.ldy, .zeroPage zp8)
  | .ldyZpx zp8 => (.ldy, .zeroPageX zp8)
  | .ldyAbs abs16 => (.ldy, .absolute abs16)
  | .ldyAbx abs16 => (.ldy, .absoluteX abs16)
  | .staZp0 zp8 => (.sta, .zeroPage zp8)
  | .staZpx zp8 => (.sta, .zeroPageX zp8)
  | .staAbs abs16 => (.sta, .absolute abs16)
  | .staAbx abs16 => (.sta, .absoluteX abs16)
  | .staAby abs16 => (.sta, .absoluteY abs16)
  | .staIzx zp8 => (.sta, .indexedIndirectX zp8)
  | .staIzy zp8 => (.sta, .indirectIndexedY zp8)
  | .stxZp0 zp8 => (.stx, .zeroPage zp8)
  | .stxZpy zp8 => (.stx, .zeroPageY zp8)
  | .stxAbs abs16 => (.stx, .absolute abs16)
  | .styZp0 zp8 => (.sty, .zeroPage zp8)
  | .styZpx zp8 => (.sty, .zeroPageX zp8)
  | .styAbs abs16 => (.sty, .absolute abs16)
  | .adcImm imm8 => (.adc, .immediate imm8)
  | .adcZp0 zp8 => (.adc, .zeroPage zp8)
  | .adcZpx zp8 => (.adc, .zeroPageX zp8)
  | .adcAbs abs16 => (.adc, .absolute abs16)
  | .adcAbx abs16 => (.adc, .absoluteX abs16)
  | .adcAby abs16 => (.adc, .absoluteY abs16)
  | .adcIzx zp8 => (.adc, .indexedIndirectX zp8)
  | .adcIzy zp8 => (.adc, .indirectIndexedY zp8)
  | .sbcImm imm8 => (.sbc, .immediate imm8)
  | .sbcZp0 zp8 => (.sbc, .zeroPage zp8)
  | .sbcZpx zp8 => (.sbc, .zeroPageX zp8)
  | .sbcAbs abs16 => (.sbc, .absolute abs16)
  | .sbcAbx abs16 => (.sbc, .absoluteX abs16)
  | .sbcAby abs16 => (.sbc, .absoluteY abs16)
  | .sbcIzx zp8 => (.sbc, .indexedIndirectX zp8)
  | .sbcIzy zp8 => (.sbc, .indirectIndexedY zp8)
  | .cmpImm imm8 => (.cmp, .immediate imm8)
  | .cmpZp0 zp8 => (.cmp, .zeroPage zp8)
  | .cmpZpx zp8 => (.cmp, .zeroPageX zp8)
  | .cmpAbs abs16 => (.cmp, .absolute abs16)
  | .cmpAbx abs16 => (.cmp, .absoluteX abs16)
  | .cmpAby abs16 => (.cmp, .absoluteY abs16)
  | .cmpIzx zp8 => (.cmp, .indexedIndirectX zp8)
  | .cmpIzy zp8 => (.cmp, .indirectIndexedY zp8)
  | .cpxImm imm8 => (.cpx, .immediate imm8)
  | .cpxZp0 zp8 => (.cpx, .zeroPage zp8)
  | .cpxAbs abs16 => (.cpx, .absolute abs16)
  | .cpyImm imm8 => (.cpy, .immediate imm8)
  | .cpyZp0 zp8 => (.cpy, .zeroPage zp8)
  | .cpyAbs abs16 => (.cpy, .absolute abs16)
  | .andImm imm8 => (.and, .immediate imm8)
  | .andZp0 zp8 => (.and, .zeroPage zp8)
  | .andZpx zp8 => (.and, .zeroPageX zp8)
  | .andAbs abs16 => (.and, .absolute abs16)
  | .andAbx abs16 => (.and, .absoluteX abs16)
  | .andAby abs16 => (.and, .absoluteY abs16)
  | .andIzx zp8 => (.and, .indexedIndirectX zp8)
  | .andIzy zp8 => (.and, .indirectIndexedY zp8)
  | .oraImm imm8 => (.ora, .immediate imm8)
  | .oraZp0 zp8 => (.ora, .zeroPage zp8)
  | .oraZpx zp8 => (.ora, .zeroPageX zp8)
  | .oraAbs abs16 => (.ora, .absolute abs16)
  | .oraAbx abs16 => (.ora, .absoluteX abs16)
  | .oraAby abs16 => (.ora, .absoluteY abs16)
  | .oraIzx zp8 => (.ora, .indexedIndirectX zp8)
  | .oraIzy zp8 => (.ora, .indirectIndexedY zp8)
  | .eorImm imm8 => (.eor, .immediate imm8)
  | .eorZp0 zp8 => (.eor, .zeroPage zp8)
  | .eorZpx zp8 => (.eor, .zeroPageX zp8)
  | .eorAbs abs16 => (.eor, .absolute abs16)
  | .eorAbx abs16 => (.eor, .absoluteX abs16)
  | .eorAby abs16 => (.eor, .absoluteY abs16)
  | .eorIzx zp8 => (.eor, .indexedIndirectX zp8)
  | .eorIzy zp8 => (.eor, .indirectIndexedY zp8)
  | .bitZp0 zp8 => (.bit, .zeroPage zp8)
  | .bitAbs abs16 => (.bit, .absolute abs16)
  | .aslImp => (.asl, .implied)
  | .aslZp0 zp8 => (.asl, .zeroPage zp8)
  | .aslZpx zp8 => (.asl, .zeroPageX zp8)
  | .aslAbs abs16 => (.asl, .absolute abs16)
  | .aslAbx abs16 => (.asl, .absoluteX abs16)
  | .lsrImp => (.lsr, .implied)
  | .lsrZp0 zp8 => (.lsr, .zeroPage zp8)
  | .lsrZpx zp8 => (.lsr, .zeroPageX zp8)
  | .lsrAbs abs16 => (.lsr, .absolute abs16)
  | .lsrAbx abs16 => (.lsr, .absoluteX abs16)
  | .rolImp => (.rol, .implied)
  | .rolZp0 zp8 => (.rol, .zeroPage zp8)
  | .rolZpx zp8 => (.rol, .zeroPageX zp8)
  | .rolAbs abs16 => (.rol, .absolute abs16)
  | .rolAbx abs16 => (.rol, .absoluteX abs16)
  | .rorImp => (.ror, .implied)
  | .rorZp0 zp8 => (.ror, .zeroPage zp8)
  | .rorZpx zp8 => (.ror, .zeroPageX zp8)
  | .rorAbs abs16 => (.ror, .absolute abs16)
  | .rorAbx abs16 => (.ror, .absoluteX abs16)
  | .incZp0 zp8 => (.inc, .zeroPage zp8)
  | .incZpx zp8 => (.inc, .zeroPageX zp8)
  | .incAbs abs16 => (.inc, .absolute abs16)
  | .incAbx abs16 => (.inc, .absoluteX abs16)
  | .decZp0 zp8 => (.dec, .zeroPage zp8)
  | .decZpx zp8 => (.dec, .zeroPageX zp8)
  | .decAbs abs16 => (.dec, .absolute abs16)
  | .decAbx abs16 => (.dec, .absoluteX abs16)
  | .inx => (.inx, .implied)
  | .dex => (.dex, .implied)
  | .iny => (.iny, .implied)
  | .dey => (.dey, .implied)
  | .bcc rel8 => (.bcc, .relative rel8)
  | .bcs rel8 => (.bcs, .relative rel8)
  | .beq rel8 => (.beq, .relative rel8)
  | .bne rel8 => (.bne, .relative rel8)
  | .bmi rel8 => (.bmi, .relative rel8)
  | .bpl rel8 => (.bpl, .relative rel8)
  | .bvc rel8 => (.bvc, .relative rel8)
  | .bvs rel8 => (.bvs, .relative rel8)
  | .jmpAbs abs16 => (.jmp, .absolute abs16)
  | .jmpInd ptr16 => (.jmp, .indirect ptr16)
  | .jsr abs16 => (.jsr, .absolute abs16)
  | .rts => (.rts, .implied)
  | .pha => (.pha, .implied)
  | .php => (.php, .implied)
  | .pla => (.pla, .implied)
  | .plp => (.plp, .implied)
  | .sec => (.sec, .implied)
  | .clc => (.clc, .implied)
  | .sed => (.sed, .implied)
  | .cld => (.cld, .implied)
  | .sei => (.sei, .implied)
  | .cli => (.cli, .implied)
  | .clv => (.clv, .implied)
  | .tax => (.tax, .implied)
  | .tay => (.tay, .implied)
  | .txa => (.txa, .implied)
  | .tya => (.tya, .implied)
  | .tsx => (.tsx, .implied)
  | .txs => (.txs, .implied)
  | .brk => (.brk, .implied)
  | .rti => (.rti, .implied)
  | .nop => (.nop, .implied)
  | .unimplemented _ => (.xxx, .implied)

/-- The operation of an instruction. -/
def Instr.op (i : Instr) : Op := i.form.1

/-- The operand form of an instruction. -/
def Instr.operand (i : Instr) : Operand := i.form.2

/-- "The length of an instruction is 1 plus this count" (R82). -/
def Instr.length (i : Instr) : Nat := 1 + i.operand.mode.operandBytes

end Sys2Proof
end

