-- ==== Sys2Proof/WellFormed.lean ====
section
/-! DEFINITION. Which terms of `Instr` are instructions of the hardware: every operand byte is legal
(spec/30_encoding.md R83), and the placeholder stands for unassigned opcode bytes only (R89). -/

namespace Sys2Proof

/-- The 105 unassigned opcode bytes (R89). -/
def unassignedOpcodes : List Byte :=
  [0x02, 0x03, 0x04, 0x07, 0x0B, 0x0C, 0x0F, 0x12, 0x13, 0x14, 0x17, 0x1A, 0x1B, 0x1C, 0x1F,
   0x22, 0x23, 0x27, 0x2B, 0x2F, 0x32, 0x33, 0x34, 0x37, 0x3A, 0x3B, 0x3C, 0x3F, 0x42, 0x43,
   0x44, 0x47, 0x4B, 0x4F, 0x52, 0x53, 0x54, 0x57, 0x5A, 0x5B, 0x5C, 0x5F, 0x62, 0x63, 0x64,
   0x67, 0x6B, 0x6F, 0x72, 0x73, 0x74, 0x77, 0x7A, 0x7B, 0x7C, 0x7F, 0x80, 0x82, 0x83, 0x87,
   0x89, 0x8B, 0x8F, 0x92, 0x93, 0x97, 0x9B, 0x9C, 0x9E, 0x9F, 0xA3, 0xA7, 0xAB, 0xAF, 0xB2,
   0xB3, 0xB7, 0xBB, 0xBF, 0xC2, 0xC3, 0xC7, 0xCB, 0xCF, 0xD2, 0xD3, 0xD4, 0xD7, 0xDA, 0xDB,
   0xDC, 0xDF, 0xE2, 0xE3, 0xE7, 0xEB, 0xEF, 0xF2, 0xF3, 0xF4, 0xF7, 0xFA, 0xFB, 0xFC, 0xFF]

/-- An instruction is well formed: a placeholder's byte is one of the unassigned ones (R89). Every
other constructor takes any operand (R83). -/
def Instr.wf : Instr → Bool
  | .ldaImm _ | .ldaZp0 _ | .ldaZpx _ | .ldaAbs _ | .ldaAbx _ | .ldaAby _ | .ldaIzx _ | .ldaIzy _ | .ldxImm _
  | .ldxZp0 _ | .ldxZpy _ | .ldxAbs _ | .ldxAby _ | .ldyImm _ | .ldyZp0 _ | .ldyZpx _ | .ldyAbs _ | .ldyAbx _
  | .staZp0 _ | .staZpx _ | .staAbs _ | .staAbx _ | .staAby _ | .staIzx _ | .staIzy _ | .stxZp0 _ | .stxZpy _
  | .stxAbs _ | .styZp0 _ | .styZpx _ | .styAbs _ | .adcImm _ | .adcZp0 _ | .adcZpx _ | .adcAbs _ | .adcAbx _
  | .adcAby _ | .adcIzx _ | .adcIzy _ | .sbcImm _ | .sbcZp0 _ | .sbcZpx _ | .sbcAbs _ | .sbcAbx _ | .sbcAby _
  | .sbcIzx _ | .sbcIzy _ | .cmpImm _ | .cmpZp0 _ | .cmpZpx _ | .cmpAbs _ | .cmpAbx _ | .cmpAby _ | .cmpIzx _
  | .cmpIzy _ | .cpxImm _ | .cpxZp0 _ | .cpxAbs _ | .cpyImm _ | .cpyZp0 _ | .cpyAbs _ | .andImm _ | .andZp0 _
  | .andZpx _ | .andAbs _ | .andAbx _ | .andAby _ | .andIzx _ | .andIzy _ | .oraImm _ | .oraZp0 _ | .oraZpx _
  | .oraAbs _ | .oraAbx _ | .oraAby _ | .oraIzx _ | .oraIzy _ | .eorImm _ | .eorZp0 _ | .eorZpx _ | .eorAbs _
  | .eorAbx _ | .eorAby _ | .eorIzx _ | .eorIzy _ | .bitZp0 _ | .bitAbs _ | .aslImp | .aslZp0 _ | .aslZpx _
  | .aslAbs _ | .aslAbx _ | .lsrImp | .lsrZp0 _ | .lsrZpx _ | .lsrAbs _ | .lsrAbx _ | .rolImp | .rolZp0 _
  | .rolZpx _ | .rolAbs _ | .rolAbx _ | .rorImp | .rorZp0 _ | .rorZpx _ | .rorAbs _ | .rorAbx _ | .incZp0 _
  | .incZpx _ | .incAbs _ | .incAbx _ | .decZp0 _ | .decZpx _ | .decAbs _ | .decAbx _ | .inx | .dex | .iny
  | .dey | .bcc _ | .bcs _ | .beq _ | .bne _ | .bmi _ | .bpl _ | .bvc _ | .bvs _ | .jmpAbs _ | .jmpInd _
  | .jsr _ | .rts | .pha | .php | .pla | .plp | .sec | .clc | .sed | .cld | .sei | .cli | .clv | .tax | .tay
  | .txa | .tya | .tsx | .txs | .brk | .rti | .nop => true
  | .unimplemented opcode => unassignedOpcodes.contains opcode

end Sys2Proof
end

