-- ==== Sys2Proof/Decode.lean ====
section
/-! DEFINITION. The decode ROM (spec/30_encoding.md R85, R87), the decoder, total on any bytes, and the
encoder written from the list by mnemonic (R88) and the formats (R81). -/

namespace Sys2Proof

/-! ### The decode ROM -/

/-- How a row's instruction is built from the bytes after the opcode (R81, R83). -/
inductive Build where
  /-- no operand byte -/
  | imp (i : Instr)
  /-- one operand byte -/
  | byte (f : Byte → Instr)
  /-- two operand bytes, little-endian -/
  | word (f : Addr → Instr)

/-- A cell of the opcode matrix (R87): `mnemonic mode base-cycles`, and the constructor it stands for. -/
structure RomCell where
  op : Op
  mode : Mode
  base : Nat
  build : Build

/-- A matrix cell, in the order R87 prints it. -/
def cell (op : Op) (mode : Mode) (base : Nat) (build : Build) : Option RomCell :=
  some { op := op, mode := mode, base := base, build := build }

/-- R87, row 0x: opcodes 0x00 to 0x0F, `none` for `-`. -/
def matrix0 : List (Option RomCell) :=
  [cell .brk .imp 7 (.imp .brk),
   cell .ora .izx 6 (.byte .oraIzx),
   none,
   none,
   none,
   cell .ora .zp0 3 (.byte .oraZp0),
   cell .asl .zp0 5 (.byte .aslZp0),
   none,
   cell .php .imp 3 (.imp .php),
   cell .ora .imm 2 (.byte .oraImm),
   cell .asl .imp 2 (.imp .aslImp),
   none,
   none,
   cell .ora .abs 4 (.word .oraAbs),
   cell .asl .abs 6 (.word .aslAbs),
   none]

/-- R87, row 1x: opcodes 0x10 to 0x1F, `none` for `-`. -/
def matrix1 : List (Option RomCell) :=
  [cell .bpl .rel 2 (.byte .bpl),
   cell .ora .izy 5 (.byte .oraIzy),
   none,
   none,
   none,
   cell .ora .zpx 4 (.byte .oraZpx),
   cell .asl .zpx 6 (.byte .aslZpx),
   none,
   cell .clc .imp 2 (.imp .clc),
   cell .ora .aby 4 (.word .oraAby),
   none,
   none,
   none,
   cell .ora .abx 4 (.word .oraAbx),
   cell .asl .abx 7 (.word .aslAbx),
   none]

/-- R87, row 2x: opcodes 0x20 to 0x2F, `none` for `-`. -/
def matrix2 : List (Option RomCell) :=
  [cell .jsr .abs 6 (.word .jsr),
   cell .and .izx 6 (.byte .andIzx),
   none,
   none,
   cell .bit .zp0 3 (.byte .bitZp0),
   cell .and .zp0 3 (.byte .andZp0),
   cell .rol .zp0 5 (.byte .rolZp0),
   none,
   cell .plp .imp 4 (.imp .plp),
   cell .and .imm 2 (.byte .andImm),
   cell .rol .imp 2 (.imp .rolImp),
   none,
   cell .bit .abs 4 (.word .bitAbs),
   cell .and .abs 4 (.word .andAbs),
   cell .rol .abs 6 (.word .rolAbs),
   none]

/-- R87, row 3x: opcodes 0x30 to 0x3F, `none` for `-`. -/
def matrix3 : List (Option RomCell) :=
  [cell .bmi .rel 2 (.byte .bmi),
   cell .and .izy 5 (.byte .andIzy),
   none,
   none,
   none,
   cell .and .zpx 4 (.byte .andZpx),
   cell .rol .zpx 6 (.byte .rolZpx),
   none,
   cell .sec .imp 2 (.imp .sec),
   cell .and .aby 4 (.word .andAby),
   none,
   none,
   none,
   cell .and .abx 4 (.word .andAbx),
   cell .rol .abx 7 (.word .rolAbx),
   none]

/-- R87, row 4x: opcodes 0x40 to 0x4F, `none` for `-`. -/
def matrix4 : List (Option RomCell) :=
  [cell .rti .imp 6 (.imp .rti),
   cell .eor .izx 6 (.byte .eorIzx),
   none,
   none,
   none,
   cell .eor .zp0 3 (.byte .eorZp0),
   cell .lsr .zp0 5 (.byte .lsrZp0),
   none,
   cell .pha .imp 3 (.imp .pha),
   cell .eor .imm 2 (.byte .eorImm),
   cell .lsr .imp 2 (.imp .lsrImp),
   none,
   cell .jmp .abs 3 (.word .jmpAbs),
   cell .eor .abs 4 (.word .eorAbs),
   cell .lsr .abs 6 (.word .lsrAbs),
   none]

/-- R87, row 5x: opcodes 0x50 to 0x5F, `none` for `-`. -/
def matrix5 : List (Option RomCell) :=
  [cell .bvc .rel 2 (.byte .bvc),
   cell .eor .izy 5 (.byte .eorIzy),
   none,
   none,
   none,
   cell .eor .zpx 4 (.byte .eorZpx),
   cell .lsr .zpx 6 (.byte .lsrZpx),
   none,
   cell .cli .imp 2 (.imp .cli),
   cell .eor .aby 4 (.word .eorAby),
   none,
   none,
   none,
   cell .eor .abx 4 (.word .eorAbx),
   cell .lsr .abx 7 (.word .lsrAbx),
   none]

/-- R87, row 6x: opcodes 0x60 to 0x6F, `none` for `-`. -/
def matrix6 : List (Option RomCell) :=
  [cell .rts .imp 6 (.imp .rts),
   cell .adc .izx 6 (.byte .adcIzx),
   none,
   none,
   none,
   cell .adc .zp0 3 (.byte .adcZp0),
   cell .ror .zp0 5 (.byte .rorZp0),
   none,
   cell .pla .imp 4 (.imp .pla),
   cell .adc .imm 2 (.byte .adcImm),
   cell .ror .imp 2 (.imp .rorImp),
   none,
   cell .jmp .ind 5 (.word .jmpInd),
   cell .adc .abs 4 (.word .adcAbs),
   cell .ror .abs 6 (.word .rorAbs),
   none]

/-- R87, row 7x: opcodes 0x70 to 0x7F, `none` for `-`. -/
def matrix7 : List (Option RomCell) :=
  [cell .bvs .rel 2 (.byte .bvs),
   cell .adc .izy 5 (.byte .adcIzy),
   none,
   none,
   none,
   cell .adc .zpx 4 (.byte .adcZpx),
   cell .ror .zpx 6 (.byte .rorZpx),
   none,
   cell .sei .imp 2 (.imp .sei),
   cell .adc .aby 4 (.word .adcAby),
   none,
   none,
   none,
   cell .adc .abx 4 (.word .adcAbx),
   cell .ror .abx 7 (.word .rorAbx),
   none]

/-- R87, row 8x: opcodes 0x80 to 0x8F, `none` for `-`. -/
def matrix8 : List (Option RomCell) :=
  [none,
   cell .sta .izx 6 (.byte .staIzx),
   none,
   none,
   cell .sty .zp0 3 (.byte .styZp0),
   cell .sta .zp0 3 (.byte .staZp0),
   cell .stx .zp0 3 (.byte .stxZp0),
   none,
   cell .dey .imp 2 (.imp .dey),
   none,
   cell .txa .imp 2 (.imp .txa),
   none,
   cell .sty .abs 4 (.word .styAbs),
   cell .sta .abs 4 (.word .staAbs),
   cell .stx .abs 4 (.word .stxAbs),
   none]

/-- R87, row 9x: opcodes 0x90 to 0x9F, `none` for `-`. -/
def matrix9 : List (Option RomCell) :=
  [cell .bcc .rel 2 (.byte .bcc),
   cell .sta .izy 6 (.byte .staIzy),
   none,
   none,
   cell .sty .zpx 4 (.byte .styZpx),
   cell .sta .zpx 4 (.byte .staZpx),
   cell .stx .zpy 4 (.byte .stxZpy),
   none,
   cell .tya .imp 2 (.imp .tya),
   cell .sta .aby 5 (.word .staAby),
   cell .txs .imp 2 (.imp .txs),
   none,
   none,
   cell .sta .abx 5 (.word .staAbx),
   none,
   none]

/-- R87, row Ax: opcodes 0xA0 to 0xAF, `none` for `-`. -/
def matrixA : List (Option RomCell) :=
  [cell .ldy .imm 2 (.byte .ldyImm),
   cell .lda .izx 6 (.byte .ldaIzx),
   cell .ldx .imm 2 (.byte .ldxImm),
   none,
   cell .ldy .zp0 3 (.byte .ldyZp0),
   cell .lda .zp0 3 (.byte .ldaZp0),
   cell .ldx .zp0 3 (.byte .ldxZp0),
   none,
   cell .tay .imp 2 (.imp .tay),
   cell .lda .imm 2 (.byte .ldaImm),
   cell .tax .imp 2 (.imp .tax),
   none,
   cell .ldy .abs 4 (.word .ldyAbs),
   cell .lda .abs 4 (.word .ldaAbs),
   cell .ldx .abs 4 (.word .ldxAbs),
   none]

/-- R87, row Bx: opcodes 0xB0 to 0xBF, `none` for `-`. -/
def matrixB : List (Option RomCell) :=
  [cell .bcs .rel 2 (.byte .bcs),
   cell .lda .izy 5 (.byte .ldaIzy),
   none,
   none,
   cell .ldy .zpx 4 (.byte .ldyZpx),
   cell .lda .zpx 4 (.byte .ldaZpx),
   cell .ldx .zpy 4 (.byte .ldxZpy),
   none,
   cell .clv .imp 2 (.imp .clv),
   cell .lda .aby 4 (.word .ldaAby),
   cell .tsx .imp 2 (.imp .tsx),
   none,
   cell .ldy .abx 4 (.word .ldyAbx),
   cell .lda .abx 4 (.word .ldaAbx),
   cell .ldx .aby 4 (.word .ldxAby),
   none]

/-- R87, row Cx: opcodes 0xC0 to 0xCF, `none` for `-`. -/
def matrixC : List (Option RomCell) :=
  [cell .cpy .imm 2 (.byte .cpyImm),
   cell .cmp .izx 6 (.byte .cmpIzx),
   none,
   none,
   cell .cpy .zp0 3 (.byte .cpyZp0),
   cell .cmp .zp0 3 (.byte .cmpZp0),
   cell .dec .zp0 5 (.byte .decZp0),
   none,
   cell .iny .imp 2 (.imp .iny),
   cell .cmp .imm 2 (.byte .cmpImm),
   cell .dex .imp 2 (.imp .dex),
   none,
   cell .cpy .abs 4 (.word .cpyAbs),
   cell .cmp .abs 4 (.word .cmpAbs),
   cell .dec .abs 6 (.word .decAbs),
   none]

/-- R87, row Dx: opcodes 0xD0 to 0xDF, `none` for `-`. -/
def matrixD : List (Option RomCell) :=
  [cell .bne .rel 2 (.byte .bne),
   cell .cmp .izy 5 (.byte .cmpIzy),
   none,
   none,
   none,
   cell .cmp .zpx 4 (.byte .cmpZpx),
   cell .dec .zpx 6 (.byte .decZpx),
   none,
   cell .cld .imp 2 (.imp .cld),
   cell .cmp .aby 4 (.word .cmpAby),
   none,
   none,
   none,
   cell .cmp .abx 4 (.word .cmpAbx),
   cell .dec .abx 7 (.word .decAbx),
   none]

/-- R87, row Ex: opcodes 0xE0 to 0xEF, `none` for `-`. -/
def matrixE : List (Option RomCell) :=
  [cell .cpx .imm 2 (.byte .cpxImm),
   cell .sbc .izx 6 (.byte .sbcIzx),
   none,
   none,
   cell .cpx .zp0 3 (.byte .cpxZp0),
   cell .sbc .zp0 3 (.byte .sbcZp0),
   cell .inc .zp0 5 (.byte .incZp0),
   none,
   cell .inx .imp 2 (.imp .inx),
   cell .sbc .imm 2 (.byte .sbcImm),
   cell .nop .imp 2 (.imp .nop),
   none,
   cell .cpx .abs 4 (.word .cpxAbs),
   cell .sbc .abs 4 (.word .sbcAbs),
   cell .inc .abs 6 (.word .incAbs),
   none]

/-- R87, row Fx: opcodes 0xF0 to 0xFF, `none` for `-`. -/
def matrixF : List (Option RomCell) :=
  [cell .beq .rel 2 (.byte .beq),
   cell .sbc .izy 5 (.byte .sbcIzy),
   none,
   none,
   none,
   cell .sbc .zpx 4 (.byte .sbcZpx),
   cell .inc .zpx 6 (.byte .incZpx),
   none,
   cell .sed .imp 2 (.imp .sed),
   cell .sbc .aby 4 (.word .sbcAby),
   none,
   none,
   none,
   cell .sbc .abx 4 (.word .sbcAbx),
   cell .inc .abx 7 (.word .incAbx),
   none]

/-- The opcode matrix (R87), indexed by the high nibble of the opcode. -/
def matrix : List (List (Option RomCell)) :=
  [matrix0, matrix1, matrix2, matrix3, matrix4, matrix5, matrix6, matrix7] ++
  [matrix8, matrix9, matrixA, matrixB, matrixC, matrixD, matrixE, matrixF]

/-- The matrix cell of an opcode byte: row is the high nibble, column the low nibble (R87). -/
def matrixCell (opcode : Byte) : Option RomCell :=
  (matrix.getD (opcode.toNat / 16) []).getD (opcode.toNat % 16) none

/-- An entry of the decode ROM (R85). The mnemonic tag is the operation's name. -/
structure RomEntry where
  op : Op
  mode : Mode
  base : Nat
  deriving DecidableEq, Repr

/-- The 256-entry decode ROM (R85): the matrix, and for every unassigned byte the one placeholder
entry, Implied, with base cost `UNIMPL_CYCLES` (R89). -/
def rom (c : Config) (opcode : Byte) : RomEntry :=
  match matrixCell opcode with
  | some r => { op := r.op, mode := r.mode, base := r.base }
  | none => { op := .xxx, mode := .imp, base := c.unimplCycles }

/-- The addressing mode an opcode byte selects, which fixes the length (R80, R82). -/
def modeOf (opcode : Byte) : Mode :=
  match matrixCell opcode with
  | some r => r.mode
  | none => .imp

/-! ### The decoder -/

/-- The instruction of an opcode byte and the two bytes that follow it in memory. Decode cannot fail:
"all 256 byte values have an entry" (40_sequencer.md R111); a byte the mode does not take is ignored. -/
def decodeBytes (opcode byte1 byte2 : Byte) : Instr :=
  match matrixCell opcode with
  | none => .unimplemented opcode
  | some r =>
    match r.build with
    | .imp i => i
    | .byte f => f byte1
    | .word f => f (Machine.join byte2 byte1)

/-- Why a byte string is no instruction: only that it ends too early. -/
inductive DecodeReject where
  /-- There is no opcode byte. -/
  | noOpcodeByte
  /-- The mode takes `needed` operand bytes and only `present` follow (R82). -/
  | missingOperandBytes (needed present : Nat)
  deriving DecidableEq, Repr

/-- The decoder's answer on a byte string. -/
inductive DecodeResult where
  /-- The instruction, and the bytes after it. -/
  | instr (i : Instr) (rest : List Byte)
  | reject (why : DecodeReject)
  deriving DecidableEq, Repr

/-- Decode the first instruction of a byte string (R80 to R83). -/
def decode : List Byte → DecodeResult
  | [] => .reject .noOpcodeByte
  | opcode :: rest =>
    let n := (modeOf opcode).operandBytes
    if rest.length < n then .reject (.missingOperandBytes n rest.length)
    else .instr (decodeBytes opcode (rest.getD 0 0) (rest.getD 1 0)) (rest.drop n)

/-- Byte `k` of an instruction word numbered from the least significant bit of its first byte. -/
def wordByte (w k : Nat) : Byte := BitVec.ofNat 8 (w / 256 ^ k)

/-- The decoder on a word of the opcode table: `nbits` bits of `w`, every bit above them 0, laid out
as bytes with the first at the lowest address (assumption 3). -/
def decodeTableWord (nbits w : Nat) : Option Instr :=
  let v := w % 2 ^ nbits
  match decode [wordByte v 0, wordByte v 1, wordByte v 2] with
  | .instr i _ => some i
  | .reject _ => none

/-! ### The encoder -/

/-- The opcode byte of each instruction (R88; for the placeholder, its own byte, R89). -/
def Instr.opcode : Instr → Byte
  | .ldaImm _ => 0xA9
  | .ldaZp0 _ => 0xA5
  | .ldaZpx _ => 0xB5
  | .ldaAbs _ => 0xAD
  | .ldaAbx _ => 0xBD
  | .ldaAby _ => 0xB9
  | .ldaIzx _ => 0xA1
  | .ldaIzy _ => 0xB1
  | .ldxImm _ => 0xA2
  | .ldxZp0 _ => 0xA6
  | .ldxZpy _ => 0xB6
  | .ldxAbs _ => 0xAE
  | .ldxAby _ => 0xBE
  | .ldyImm _ => 0xA0
  | .ldyZp0 _ => 0xA4
  | .ldyZpx _ => 0xB4
  | .ldyAbs _ => 0xAC
  | .ldyAbx _ => 0xBC
  | .staZp0 _ => 0x85
  | .staZpx _ => 0x95
  | .staAbs _ => 0x8D
  | .staAbx _ => 0x9D
  | .staAby _ => 0x99
  | .staIzx _ => 0x81
  | .staIzy _ => 0x91
  | .stxZp0 _ => 0x86
  | .stxZpy _ => 0x96
  | .stxAbs _ => 0x8E
  | .styZp0 _ => 0x84
  | .styZpx _ => 0x94
  | .styAbs _ => 0x8C
  | .adcImm _ => 0x69
  | .adcZp0 _ => 0x65
  | .adcZpx _ => 0x75
  | .adcAbs _ => 0x6D
  | .adcAbx _ => 0x7D
  | .adcAby _ => 0x79
  | .adcIzx _ => 0x61
  | .adcIzy _ => 0x71
  | .sbcImm _ => 0xE9
  | .sbcZp0 _ => 0xE5
  | .sbcZpx _ => 0xF5
  | .sbcAbs _ => 0xED
  | .sbcAbx _ => 0xFD
  | .sbcAby _ => 0xF9
  | .sbcIzx _ => 0xE1
  | .sbcIzy _ => 0xF1
  | .cmpImm _ => 0xC9
  | .cmpZp0 _ => 0xC5
  | .cmpZpx _ => 0xD5
  | .cmpAbs _ => 0xCD
  | .cmpAbx _ => 0xDD
  | .cmpAby _ => 0xD9
  | .cmpIzx _ => 0xC1
  | .cmpIzy _ => 0xD1
  | .cpxImm _ => 0xE0
  | .cpxZp0 _ => 0xE4
  | .cpxAbs _ => 0xEC
  | .cpyImm _ => 0xC0
  | .cpyZp0 _ => 0xC4
  | .cpyAbs _ => 0xCC
  | .andImm _ => 0x29
  | .andZp0 _ => 0x25
  | .andZpx _ => 0x35
  | .andAbs _ => 0x2D
  | .andAbx _ => 0x3D
  | .andAby _ => 0x39
  | .andIzx _ => 0x21
  | .andIzy _ => 0x31
  | .oraImm _ => 0x09
  | .oraZp0 _ => 0x05
  | .oraZpx _ => 0x15
  | .oraAbs _ => 0x0D
  | .oraAbx _ => 0x1D
  | .oraAby _ => 0x19
  | .oraIzx _ => 0x01
  | .oraIzy _ => 0x11
  | .eorImm _ => 0x49
  | .eorZp0 _ => 0x45
  | .eorZpx _ => 0x55
  | .eorAbs _ => 0x4D
  | .eorAbx _ => 0x5D
  | .eorAby _ => 0x59
  | .eorIzx _ => 0x41
  | .eorIzy _ => 0x51
  | .bitZp0 _ => 0x24
  | .bitAbs _ => 0x2C
  | .aslImp => 0x0A
  | .aslZp0 _ => 0x06
  | .aslZpx _ => 0x16
  | .aslAbs _ => 0x0E
  | .aslAbx _ => 0x1E
  | .lsrImp => 0x4A
  | .lsrZp0 _ => 0x46
  | .lsrZpx _ => 0x56
  | .lsrAbs _ => 0x4E
  | .lsrAbx _ => 0x5E
  | .rolImp => 0x2A
  | .rolZp0 _ => 0x26
  | .rolZpx _ => 0x36
  | .rolAbs _ => 0x2E
  | .rolAbx _ => 0x3E
  | .rorImp => 0x6A
  | .rorZp0 _ => 0x66
  | .rorZpx _ => 0x76
  | .rorAbs _ => 0x6E
  | .rorAbx _ => 0x7E
  | .incZp0 _ => 0xE6
  | .incZpx _ => 0xF6
  | .incAbs _ => 0xEE
  | .incAbx _ => 0xFE
  | .decZp0 _ => 0xC6
  | .decZpx _ => 0xD6
  | .decAbs _ => 0xCE
  | .decAbx _ => 0xDE
  | .inx => 0xE8
  | .dex => 0xCA
  | .iny => 0xC8
  | .dey => 0x88
  | .bcc _ => 0x90
  | .bcs _ => 0xB0
  | .beq _ => 0xF0
  | .bne _ => 0xD0
  | .bmi _ => 0x30
  | .bpl _ => 0x10
  | .bvc _ => 0x50
  | .bvs _ => 0x70
  | .jmpAbs _ => 0x4C
  | .jmpInd _ => 0x6C
  | .jsr _ => 0x20
  | .rts => 0x60
  | .pha => 0x48
  | .php => 0x08
  | .pla => 0x68
  | .plp => 0x28
  | .sec => 0x38
  | .clc => 0x18
  | .sed => 0xF8
  | .cld => 0xD8
  | .sei => 0x78
  | .cli => 0x58
  | .clv => 0xB8
  | .tax => 0xAA
  | .tay => 0xA8
  | .txa => 0x8A
  | .tya => 0x98
  | .tsx => 0xBA
  | .txs => 0x9A
  | .brk => 0x00
  | .rti => 0x40
  | .nop => 0xEA
  | .unimplemented opcode => opcode

/-- The operand bytes of a form, in memory order: one byte as it stands, or a 16-bit value low byte
first (R81, R83). -/
def Operand.bytes : Operand → List Byte
  | .implied => []
  | .immediate b | .zeroPage b | .zeroPageX b | .zeroPageY b => [b]
  | .indexedIndirectX b | .indirectIndexedY b | .relative b => [b]
  | .absolute a | .absoluteX a | .absoluteY a | .indirect a => [Machine.loByte a, Machine.hiByte a]

/-- The bytes of an instruction: the opcode byte, then the operand bytes (R80, R81). -/
def encode (i : Instr) : List Byte := i.opcode :: i.operand.bytes

end Sys2Proof
end

