-- ==== Sys2Proof/Machine/State.lean ====
section
/-! DEFINITION. The state of the machine as plain data (spec/10_state.md), the reasons a step can stop,
and the state after reset (R43). -/

namespace Sys2Proof.Machine

/-- The eight flags of the status register, bits 0 to 7 in this order (R25). -/
inductive Flag where
  | C | Z | I | D | B | U | V | N
  deriving DecidableEq, Repr

/-- What the outside world does to the core, one call at a time (40_sequencer.md R122), and the host's
write to memory between events (20_memory.md R72). -/
inductive Event where
  /-- `Clock` (40_sequencer.md R110) -/
  | clock
  /-- `Reset` (60_exceptions.md R260) -/
  | reset
  /-- `Irq` (60_exceptions.md R262) -/
  | irq
  /-- `Nmi` (60_exceptions.md R265) -/
  | nmi
  /-- The host stores a byte (20_memory.md R72, 70_reset_and_hazards.md R295). -/
  | hostWrite (addr : Addr) (value : Byte)
  deriving DecidableEq, Repr

/-- Memory: the bytes that were written, with their addresses strictly rising. An address that is not
listed was never written (assumption 1). -/
abbrev Memory := List Host.Cell

/-- The canonical form of `Memory`: addresses strictly rising and inside the 64 KiB space (R50). -/
abbrev Memory.wf (m : Memory) : Prop :=
  m.Pairwise (fun c d => c.1 < d.1) ∧ ∀ c ∈ m, c.1 < 65536

/-- The state: the six registers, the five transient fields and memory of spec/10_state.md, whether a
`Reset` has happened (70_reset_and_hazards.md R291), and the model's own `config` and `inputs`. -/
structure State where
  /-- `A`, the accumulator (R21). -/
  a : Byte
  /-- `X`, index register (R22). -/
  x : Byte
  /-- `Y`, index register (R23). -/
  y : Byte
  /-- `SP`, the low byte of the stack address in page 1 (R24). -/
  sp : Byte
  /-- `P`, the status register, all eight bits storage (R25). -/
  p : Byte
  /-- `PC`, the address of the next byte of the instruction stream (R32). -/
  pc : Addr
  /-- `fetched`, the operand byte (R35). -/
  fetched : Byte
  /-- `addr_abs`, the resolved absolute address (R36). -/
  addrAbs : Addr
  /-- `addr_rel`, the sign-extended branch offset (R37). -/
  addrRel : Addr
  /-- `opcode`, the opcode byte of the instruction most recently started (R38). -/
  opcode : Byte
  /-- `cycles`, the remaining-cycles counter, a natural number (R39). -/
  cycles : Nat
  /-- The 65536 bytes behind the bus (20_memory.md R50), as the list of those written. -/
  mem : Memory
  /-- A `Reset` has happened; before the first one the core accepts nothing else (R291, assumption 7). -/
  resetSeen : Bool
  /-- The parameters of 00_scope.md R7; configuration, never written (R45, assumption 6). -/
  config : Config
  /-- The model's own field: the calls the driving loop still makes, oldest first; a `Clock` each step
  once none is left (assumption 4). -/
  inputs : List Event
  deriving DecidableEq, Repr

/-- No step of this hardware faults: "There is no fault outcome and no stuck outcome inside the core"
(00_scope.md R12), so no constructor is needed and nobody raises one. -/
inductive Fault where
  deriving DecidableEq, Repr

/-- Why an event has no next state. -/
inductive Refusal where
  /-- Raised only by an arm of `exec` whose instruction has no meaning yet (there is none such); safe. -/
  | notModelled (mnemonic : String)
  /-- Raised by `Clock`, `Irq` and `Nmi` before the first `Reset` (70_reset_and_hazards.md R291,
  decision D15); safe. -/
  | beforeFirstReset
  /-- Raised by `Irq` and `Nmi` when `cycles` is not 0, which breaks the caller's contract
  (60_exceptions.md R275, decision D17); safe. -/
  | requestOffBoundary
  deriving DecidableEq, Repr

/-- What a step, an event or an instruction answers. -/
abbrev Out := Host.Outcome State Fault Refusal

/-- The machine right after reset (R43, R290), with memory in which nothing is written. The spec's
`PC` is the word at 0xFFFC, which is unspecified there; 0x8000 is the model's choice (assumption 2). -/
def State.reset : State where
  a := 0x00
  x := 0x00
  y := 0x00
  sp := 0xFD
  p := 0x20
  pc := 0x8000
  fetched := 0x00
  addrAbs := 0x0000
  addrRel := 0x0000
  opcode := 0x00
  cycles := 8
  mem := []
  resetSeen := true
  config := Config.default
  inputs := []

/-! Named updates of one field each; their lemmas are in Laws/State.lean. -/

def State.setA (s : State) (v : Byte) : State := { s with a := v }
def State.setX (s : State) (v : Byte) : State := { s with x := v }
def State.setY (s : State) (v : Byte) : State := { s with y := v }
def State.setSp (s : State) (v : Byte) : State := { s with sp := v }
def State.setP (s : State) (v : Byte) : State := { s with p := v }
def State.setPc (s : State) (v : Addr) : State := { s with pc := v }
def State.setFetched (s : State) (v : Byte) : State := { s with fetched := v }
def State.setAddrAbs (s : State) (v : Addr) : State := { s with addrAbs := v }
def State.setAddrRel (s : State) (v : Addr) : State := { s with addrRel := v }
def State.setOpcode (s : State) (v : Byte) : State := { s with opcode := v }
def State.setCycles (s : State) (v : Nat) : State := { s with cycles := v }
def State.setMem (s : State) (v : Memory) : State := { s with mem := v }
def State.setResetSeen (s : State) (v : Bool) : State := { s with resetSeen := v }
def State.setInputs (s : State) (v : List Event) : State := { s with inputs := v }

end Sys2Proof.Machine
end

