-- ==== Sys2Proof/Machine/Flags.lean ====
section
/-! DEFINITION. The status register: access to one flag (spec/10_state.md R26), `SetZN` (R30), and the
flag computations of the arithmetic, compare, bit-test, shift and stack rules. -/

namespace Sys2Proof.Machine

/-- The bit of `P` a flag is (R25). -/
def Flag.bit : Flag → Nat
  | .C => 0
  | .Z => 1
  | .I => 2
  | .D => 3
  | .B => 4
  | .U => 5
  | .V => 6
  | .N => 7

/-- The mask column of R25. -/
def Flag.mask (f : Flag) : Byte := 1 <<< f.bit

/-- `get_flag(f)`: the value of the one bit `f` of `P` (R26). -/
def getFlag (p : Byte) (f : Flag) : Bool := p.getLsbD f.bit

/-- `set_flag(f, b)`: sets the bit to 1 when `b` is true and to 0 otherwise, no other bit (R26). -/
def setFlag (p : Byte) (f : Flag) (b : Bool) : Byte :=
  if b then p ||| f.mask else p &&& ~~~f.mask

/-- `SetZN(v)`: `P.Z <- (v = 0); P.N <- v[7]` (R30). -/
def setZN (v p : Byte) : Byte :=
  setFlag (setFlag p .Z (v == 0)) .N (v.getLsbD 7)

/-- `temp` of `AddCore(m)`: `A + m + P.C` in unbounded integers (43_arithmetic_compare.md R160). -/
def addTemp (a m p : Byte) : Nat := a.toNat + m.toNat + (getFlag p .C).toNat

/-- `temp[7:0]`, the new `A` of `AddCore(m)` (R160). -/
def addResult (a m p : Byte) : Byte := BitVec.ofNat 8 (addTemp a m p)

/-- The four flags of `AddCore(m)`, all from the old `A` and the old carry (R160). -/
def addFlags (a m p : Byte) : Byte :=
  let r := addResult a m p
  let p1 := setFlag p .C (decide (addTemp a m p > 255))
  let p2 := setFlag p1 .Z (r == 0)
  let p3 := setFlag p2 .V ((~~~(a ^^^ m) &&& (a ^^^ r)).getLsbD 7)
  setFlag p3 .N (r.getLsbD 7)

/-- The flags of a compare of register `r` with `m`: C is `r >= m`, Z and N from the low byte of
`r - m` (43_arithmetic_compare.md R163 to R165). -/
def compareFlags (r m p : Byte) : Byte :=
  setZN (r - m) (setFlag p .C (decide (m.toNat ≤ r.toNat)))

/-- The flags of BIT: Z from `A & m`, N and V from bits 7 and 6 of `m` (44_logical_bit.md R173). -/
def bitFlags (a m p : Byte) : Byte :=
  setFlag (setFlag (setFlag p .Z ((a &&& m) == 0)) .N (m.getLsbD 7)) .V (m.getLsbD 6)

/-- The flags of a shift or rotate: C is the bit shifted out, Z and N from the result
(45_shift_rotate.md R180). -/
def shiftFlags (carry : Bool) (r p : Byte) : Byte := setZN r (setFlag p .C carry)

/-- The byte PHP pushes: a copy of `P` with B and U forced to 1 (48_stack_flag_transfer.md R221). -/
def phpByte (p : Byte) : Byte := p ||| 0x30

/-- What PLP loads: the popped byte with U forced to 1, B as popped (48_stack_flag_transfer.md R223). -/
def plpByte (v : Byte) : Byte := v ||| 0x20

/-- What RTI loads: the popped byte with B cleared and U forced to 1 (49_system.md R251). -/
def rtiByte (v : Byte) : Byte := (v &&& 0xEF) ||| 0x20

/-- The live `P` when `Irq` and `Nmi` push it: `P.B <- 0; P.U <- 1` (60_exceptions.md R262, R265). -/
def requestByte (p : Byte) : Byte := setFlag (setFlag p .B false) .U true

/-- The live `P` when BRK pushes it: `P.I <- 1`, then `P.B <- 1` (49_system.md R250). -/
def brkByte (p : Byte) : Byte := setFlag (setFlag p .I true) .B true

end Sys2Proof.Machine
end

