-- ==== Sys2Proof/Machine/Ops.lean ====
section
/-! DEFINITION. The named operations over memory, stack and registers (spec/20_memory.md), fetching an
instruction (spec/40_sequencer.md R111), and the one operation by which BRK, `Irq` and `Nmi` take an
interrupt, with the return from one beside it. -/

namespace Sys2Proof.Machine

/-! ### Memory -/

/-- The byte listed at an address, if one is. -/
def lookup : Memory → Nat → Option Byte
  | [], _ => none
  | (b, v) :: m, a => if b = a then some v else lookup m a

/-- List `v` at address `a`, in its place among the rising addresses. -/
def store (a : Nat) (v : Byte) : Memory → Memory
  | [] => [(a, v)]
  | (b, w) :: m =>
    if a < b then (a, v) :: (b, w) :: m
    else if a = b then (a, v) :: m
    else (b, w) :: store a v m

/-- What an address nobody has written reads as: its free launch byte (70_reset_and_hazards.md R295,
assumption 1). -/
def unwritten (a : Nat) : Byte := Config.launchByte a

/-- `MemRead(addr, 1)`: always succeeds and changes nothing (R51). -/
def State.read (s : State) (a : Addr) : Byte := (lookup s.mem a.toNat).getD (unwritten a.toNat)

/-- `MemPeek(addr)`: the same byte (R52). -/
def State.peek (s : State) (a : Addr) : Byte := s.read a

/-- `MemWrite(addr, 1, v)`: always succeeds; every other location is unchanged (R53). -/
def State.write (s : State) (a : Addr) (v : Byte) : State := s.setMem (store a.toNat v s.mem)

/-- `Read16(addr)`: the low byte at `addr`, the high byte at `addr +_16 1` (R56). -/
def State.read16 (s : State) (a : Addr) : Addr := join (s.read (a + 1)) (s.read a)

/-! ### The stack -/

/-- The stack address for a stack pointer value: `0x01 ## s` (R57). -/
def stackAddr (sp : Byte) : Addr := join 0x01 sp

/-- `Push(v)` (R58). -/
def push (v : Byte) (s : State) : State := (s.write (stackAddr s.sp) v).setSp (s.sp - 1)

/-- The byte `Pop()` returns (R59). -/
def popByte (s : State) : Byte := s.read (stackAddr (s.sp + 1))

/-- What `Pop()` leaves: `SP` incremented (R59). -/
def popState (s : State) : State := s.setSp (s.sp + 1)

/-- A 16-bit value is pushed high byte first (R60). -/
def pushWord (w : Addr) (s : State) : State := push (loByte w) (push (hiByte w) s)

/-- A 16-bit value is popped low byte first (R60). -/
def popWord (s : State) : Addr := join (popByte (popState s)) (popByte s)

/-- What popping a 16-bit value leaves. -/
def popWordState (s : State) : State := popState (popState s)

/-! ### Fixed addresses and counts (00_scope.md R6) -/

/-- `RESET_VECTOR`. -/
def resetVector : Addr := 0xFFFC

/-- `IRQ_VECTOR`, of `Irq` and BRK. -/
def irqVector : Addr := 0xFFFE

/-- `NMI_VECTOR`: "the same pair as `IRQ_VECTOR`" (60_exceptions.md R266). -/
def nmiVector : Addr := 0xFFFE

/-- `RESET_SP`. -/
def resetSp : Byte := 0xFD

/-- `RESET_CYCLES`. -/
def resetCycles : Nat := 8

/-- `IRQ_CYCLES`. -/
def irqCycles : Nat := 7

/-- `NMI_CYCLES`. -/
def nmiCycles : Nat := 8

/-- `P` after `Reset`: U = 1, every other flag 0 (10_state.md R31). -/
def resetP : Byte := 0x20

/-! ### Fetching and placing an instruction -/

/-- The instruction at `PC`: the opcode byte and, where its mode takes them, the next bytes, all read
before the operation runs (40_sequencer.md R111, 20_memory.md R68). Reading the bytes a shorter
instruction does not take changes nothing (R51). -/
def fetchInstr (s : State) : Instr :=
  decodeBytes (s.read s.pc) (s.read (s.pc + 1)) (s.read (s.pc + 2))

/-- Three bytes stored from an address up, as the host loads a program (R72). -/
def placeBytes (a : Addr) (b0 b1 b2 : Byte) (s : State) : State :=
  ((s.write a b0).write (a + 1) b1).write (a + 2) b2

/-- The opcode fetch and the base count of the boundary `Clock`: `opcode <- ` the byte,
`PC <- PC +_16 1`, `cycles <- e.base` (40_sequencer.md R110, R111). -/
def startInstr (opcode : Byte) (s : State) : State :=
  ((s.setOpcode opcode).setPc (s.pc + 1)).setCycles (rom s.config opcode).base

/-! ### Taking an interrupt and returning from one -/

/-- What BRK, `Irq` and `Nmi` share (60_exceptions.md R267): push the return address high byte first,
push a status byte, leave a status in the live `P`, load `PC` from a vector. -/
def takeInterrupt (ret : Addr) (pushed live : Byte) (vector : Addr) (s : State) : State :=
  let t := (push pushed (pushWord ret s)).setP live
  t.setPc (t.read16 vector)

/-- The return RTI makes (49_system.md R251): status, then `PC` low and high, no increment. -/
def returnFromInterrupt (s : State) : State :=
  let t := (popState s).setP (rtiByte (popByte s))
  (popWordState t).setPc (popWord t)

end Sys2Proof.Machine
end

