-- ==== Sys2Proof/Machine/Operands.lean ====
section
/-! DEFINITION. The addressing-mode unit (spec/41_addressing_modes.md): `AddrMode` for the twelve modes,
`Fetch()`, the write-back of the shifts, and the frame of the boundary `Clock` that runs a mode and
then an operation (spec/40_sequencer.md R110). -/

namespace Sys2Proof.Machine

/-- The word at a zero-page pointer; its second byte wraps inside zero page (R140, R141). -/
def zeroPageWord (s : State) (p : Byte) : Addr :=
  join (s.read (zext16 (p + 1))) (s.read (zext16 p))

/-- Where the Indirect mode reads the pointer's high byte, by `INDIRECT_PAGE_WRAP` (R139). -/
def indirectHighAddr (wrap : Bool) (ptr : Addr) : Addr :=
  if wrap then join (hiByte ptr) (loByte ptr + 1) else ptr + 1

/-- The address a mode resolves, with `PC` at the byte after the opcode (R132 to R141). Implied and
Relative write no address: `addr_abs` as it was (R131, R142). -/
def effAddr (o : Operand) (s : State) : Addr :=
  match o with
  | .implied => s.addrAbs
  | .immediate _ => s.pc
  | .zeroPage zp8 => zext16 zp8
  | .zeroPageX zp8 => zext16 (zp8 + s.x)
  | .zeroPageY zp8 => zext16 (zp8 + s.y)
  | .absolute abs16 => abs16
  | .absoluteX abs16 => abs16 + zext16 s.x
  | .absoluteY abs16 => abs16 + zext16 s.y
  | .indirect ptr16 => join (s.read (indirectHighAddr s.config.indirectPageWrap ptr16)) (s.read ptr16)
  | .indexedIndirectX zp8 => zeroPageWord s (zp8 + s.x)
  | .indirectIndexedY zp8 => zeroPageWord s zp8 + zext16 s.y
  | .relative _ => s.addrAbs

/-- The mode's extra-cycle signal `s1`: 1 only from AbsoluteX, AbsoluteY and IndirectIndexedY, when
adding the index changed the high byte (R137, R138, R141; 40_sequencer.md R115). -/
def modeSignal (o : Operand) (s : State) : Bool :=
  match o with
  | .absoluteX abs16 => otherPage (effAddr o s) abs16
  | .absoluteY abs16 => otherPage (effAddr o s) abs16
  | .indirectIndexedY zp8 => otherPage (effAddr o s) (zeroPageWord s zp8)
  | .implied | .immediate _ | .zeroPage _ | .zeroPageX _ | .zeroPageY _ | .absolute _ => false
  | .indirect _ | .indexedIndirectX _ | .relative _ => false

/-- `fetched` after the mode: the Implied mode copies `A` (R131), the others leave it (R130). -/
def modeFetched (o : Operand) (s : State) : Byte :=
  match o.mode with
  | .imp => s.a
  | .imm | .zp0 | .zpx | .zpy | .abs | .abx | .aby | .ind | .izx | .izy | .rel => s.fetched

/-- `addr_rel` after the mode: the Relative mode sign-extends its byte (R142), the others leave it. -/
def modeAddrRel (o : Operand) (s : State) : Addr :=
  match o with
  | .relative rel8 => sext16 rel8
  | .implied | .immediate _ | .zeroPage _ | .zeroPageX _ | .zeroPageY _ | .absolute _ => s.addrRel
  | .absoluteX _ | .absoluteY _ | .indirect _ | .indexedIndirectX _ | .indirectIndexedY _ => s.addrRel

/-- What `AddrMode` does to the state: `PC` past the operand bytes, and exactly one of `fetched`,
`addr_abs`, `addr_rel` written (R130). -/
def addrMode (o : Operand) (s : State) : State :=
  (((s.setPc (s.pc + BitVec.ofNat 16 o.mode.operandBytes)).setAddrAbs (effAddr o s)).setAddrRel
    (modeAddrRel o s)).setFetched (modeFetched o s)

/-- The byte `Fetch()` returns (R143): in Implied mode what the mode left in `fetched`; in Immediate
mode the byte `addr_abs` points at, which is the instruction's own operand byte, already decoded
(assumption 12); otherwise the byte at `addr_abs`. -/
def operandByte (o : Operand) (s : State) : Byte :=
  match o with
  | .implied => s.fetched
  | .immediate imm8 => imm8
  | .zeroPage _ | .zeroPageX _ | .zeroPageY _ | .absolute _ | .absoluteX _ => s.read s.addrAbs
  | .absoluteY _ | .indirect _ | .indexedIndirectX _ | .indirectIndexedY _ => s.read s.addrAbs
  | .relative _ => s.read s.addrAbs

/-- What `Fetch()` leaves: the operand byte in `fetched` (R143). -/
def fetch (o : Operand) (s : State) : State := s.setFetched (operandByte o s)

/-- `WriteBack(r)`: to `A` in Implied mode, to memory at `addr_abs` otherwise (45_shift_rotate.md
R180). -/
def writeBack (o : Operand) (r : Byte) (s : State) : State :=
  match o.mode with
  | .imp => s.setA r
  | .imm | .zp0 | .zpx | .zpy | .abs | .abx | .aby | .ind | .izx | .izy | .rel => s.write s.addrAbs r

/-- The boundary `Clock` of an instruction, from the opcode fetch to the page-cross cycle: the mode
runs, then the operation, and one cycle is added when both signal it (40_sequencer.md R110, R114).
`operation` answers its state and its signal `s2`. -/
def runInstr (opcode : Byte) (o : Operand) (operation : Operand → State → State × Bool) (s : State) :
    Out :=
  let s0 := startInstr opcode s
  let r := operation o (addrMode o s0)
  .next (r.1.setCycles (r.1.cycles + (modeSignal o s0 && r.2).toNat))

end Sys2Proof.Machine
end

