-- ==== Sys2Proof/Machine/Arithmetic.lean ====
section
/-! DEFINITION. Arithmetic and compare (spec/43_arithmetic_compare.md R160 to R166). -/

namespace Sys2Proof.Machine

/-- `AddCore(m)`: the one adder of ADC and SBC; binary only, D is not consulted (R160). -/
def addCore (m : Byte) (s : State) : State :=
  (s.setP (addFlags s.a m s.p)).setA (addResult s.a m s.p)

/-- ADC (R161): `m <- Fetch(); AddCore(m); return 1`. -/
def opAdc (o : Operand) (s : State) : State × Bool :=
  (addCore (operandByte o s) (fetch o s), true)

/-- 0x69 `ADC #imm8` (R161). -/
def execAdcImm (imm8 : Byte) (s : State) : Out :=
  runInstr 0x69 (.immediate imm8) opAdc s

/-- 0x65 `ADC zp8` (R161). -/
def execAdcZp0 (zp8 : Byte) (s : State) : Out :=
  runInstr 0x65 (.zeroPage zp8) opAdc s

/-- 0x75 `ADC zp8,X` (R161). -/
def execAdcZpx (zp8 : Byte) (s : State) : Out :=
  runInstr 0x75 (.zeroPageX zp8) opAdc s

/-- 0x6D `ADC abs16` (R161). -/
def execAdcAbs (abs16 : Addr) (s : State) : Out :=
  runInstr 0x6D (.absolute abs16) opAdc s

/-- 0x7D `ADC abs16,X` (R161). -/
def execAdcAbx (abs16 : Addr) (s : State) : Out :=
  runInstr 0x7D (.absoluteX abs16) opAdc s

/-- 0x79 `ADC abs16,Y` (R161). -/
def execAdcAby (abs16 : Addr) (s : State) : Out :=
  runInstr 0x79 (.absoluteY abs16) opAdc s

/-- 0x61 `ADC (zp8,X)` (R161). -/
def execAdcIzx (zp8 : Byte) (s : State) : Out :=
  runInstr 0x61 (.indexedIndirectX zp8) opAdc s

/-- 0x71 `ADC (zp8),Y` (R161). -/
def execAdcIzy (zp8 : Byte) (s : State) : Out :=
  runInstr 0x71 (.indirectIndexedY zp8) opAdc s

/-- SBC (R162): `m <- Fetch() ^ 0xFF; AddCore(m); return 1`. -/
def opSbc (o : Operand) (s : State) : State × Bool :=
  (addCore (operandByte o s ^^^ 0xFF) (fetch o s), true)

/-- 0xE9 `SBC #imm8` (R162). -/
def execSbcImm (imm8 : Byte) (s : State) : Out :=
  runInstr 0xE9 (.immediate imm8) opSbc s

/-- 0xE5 `SBC zp8` (R162). -/
def execSbcZp0 (zp8 : Byte) (s : State) : Out :=
  runInstr 0xE5 (.zeroPage zp8) opSbc s

/-- 0xF5 `SBC zp8,X` (R162). -/
def execSbcZpx (zp8 : Byte) (s : State) : Out :=
  runInstr 0xF5 (.zeroPageX zp8) opSbc s

/-- 0xED `SBC abs16` (R162). -/
def execSbcAbs (abs16 : Addr) (s : State) : Out :=
  runInstr 0xED (.absolute abs16) opSbc s

/-- 0xFD `SBC abs16,X` (R162). -/
def execSbcAbx (abs16 : Addr) (s : State) : Out :=
  runInstr 0xFD (.absoluteX abs16) opSbc s

/-- 0xF9 `SBC abs16,Y` (R162). -/
def execSbcAby (abs16 : Addr) (s : State) : Out :=
  runInstr 0xF9 (.absoluteY abs16) opSbc s

/-- 0xE1 `SBC (zp8,X)` (R162). -/
def execSbcIzx (zp8 : Byte) (s : State) : Out :=
  runInstr 0xE1 (.indexedIndirectX zp8) opSbc s

/-- 0xF1 `SBC (zp8),Y` (R162). -/
def execSbcIzy (zp8 : Byte) (s : State) : Out :=
  runInstr 0xF1 (.indirectIndexedY zp8) opSbc s

/-- A compare of register value `r` with the operand: the result is never stored (R163 to R165). -/
def compareWith (r : Byte) (o : Operand) (s : State) : State :=
  (fetch o s).setP (compareFlags r (operandByte o s) s.p)

/-- CMP (R163): compares `A`; `return 1`. -/
def opCmp (o : Operand) (s : State) : State × Bool := (compareWith s.a o s, true)

/-- 0xC9 `CMP #imm8` (R163). -/
def execCmpImm (imm8 : Byte) (s : State) : Out :=
  runInstr 0xC9 (.immediate imm8) opCmp s

/-- 0xC5 `CMP zp8` (R163). -/
def execCmpZp0 (zp8 : Byte) (s : State) : Out :=
  runInstr 0xC5 (.zeroPage zp8) opCmp s

/-- 0xD5 `CMP zp8,X` (R163). -/
def execCmpZpx (zp8 : Byte) (s : State) : Out :=
  runInstr 0xD5 (.zeroPageX zp8) opCmp s

/-- 0xCD `CMP abs16` (R163). -/
def execCmpAbs (abs16 : Addr) (s : State) : Out :=
  runInstr 0xCD (.absolute abs16) opCmp s

/-- 0xDD `CMP abs16,X` (R163). -/
def execCmpAbx (abs16 : Addr) (s : State) : Out :=
  runInstr 0xDD (.absoluteX abs16) opCmp s

/-- 0xD9 `CMP abs16,Y` (R163). -/
def execCmpAby (abs16 : Addr) (s : State) : Out :=
  runInstr 0xD9 (.absoluteY abs16) opCmp s

/-- 0xC1 `CMP (zp8,X)` (R163). -/
def execCmpIzx (zp8 : Byte) (s : State) : Out :=
  runInstr 0xC1 (.indexedIndirectX zp8) opCmp s

/-- 0xD1 `CMP (zp8),Y` (R163). -/
def execCmpIzy (zp8 : Byte) (s : State) : Out :=
  runInstr 0xD1 (.indirectIndexedY zp8) opCmp s

/-- CPX (R164): compares `X`; `return 0`. -/
def opCpx (o : Operand) (s : State) : State × Bool := (compareWith s.x o s, false)

/-- 0xE0 `CPX #imm8` (R164). -/
def execCpxImm (imm8 : Byte) (s : State) : Out :=
  runInstr 0xE0 (.immediate imm8) opCpx s

/-- 0xE4 `CPX zp8` (R164). -/
def execCpxZp0 (zp8 : Byte) (s : State) : Out :=
  runInstr 0xE4 (.zeroPage zp8) opCpx s

/-- 0xEC `CPX abs16` (R164). -/
def execCpxAbs (abs16 : Addr) (s : State) : Out :=
  runInstr 0xEC (.absolute abs16) opCpx s

/-- CPY (R165): compares `Y`; `return 0`. -/
def opCpy (o : Operand) (s : State) : State × Bool := (compareWith s.y o s, false)

/-- 0xC0 `CPY #imm8` (R165). -/
def execCpyImm (imm8 : Byte) (s : State) : Out :=
  runInstr 0xC0 (.immediate imm8) opCpy s

/-- 0xC4 `CPY zp8` (R165). -/
def execCpyZp0 (zp8 : Byte) (s : State) : Out :=
  runInstr 0xC4 (.zeroPage zp8) opCpy s

/-- 0xCC `CPY abs16` (R165). -/
def execCpyAbs (abs16 : Addr) (s : State) : Out :=
  runInstr 0xCC (.absolute abs16) opCpy s

end Sys2Proof.Machine
end

