-- ==== Sys2Proof/Machine/Control.lean ====
section
/-! DEFINITION. Branches, jumps, subroutine call and return (spec/47_control_transfer.md R200 to R211). -/

namespace Sys2Proof.Machine

/-- `Branch(cond)` (R200), with `PC` at the next instruction: one cycle for a branch taken, one more
when the target lies in another page than that `PC` (decision D12). -/
def branch (cond : Bool) (s : State) : State :=
  let target := s.pc + s.addrRel
  if cond then (s.setCycles (s.cycles + 1 + (otherPage target s.pc).toNat)).setPc target
  else s

/-- BCC (R201): `return Branch(P.C = 0)`. -/
def opBcc (_ : Operand) (s : State) : State × Bool := (branch (!getFlag s.p .C) s, false)

/-- 0x90 `BCC rel8` (R201). -/
def execBcc (rel8 : Byte) (s : State) : Out :=
  runInstr 0x90 (.relative rel8) opBcc s

/-- BCS (R202): `return Branch(P.C = 1)`. -/
def opBcs (_ : Operand) (s : State) : State × Bool := (branch (getFlag s.p .C) s, false)

/-- 0xB0 `BCS rel8` (R202). -/
def execBcs (rel8 : Byte) (s : State) : Out :=
  runInstr 0xB0 (.relative rel8) opBcs s

/-- BEQ (R203): `return Branch(P.Z = 1)`. -/
def opBeq (_ : Operand) (s : State) : State × Bool := (branch (getFlag s.p .Z) s, false)

/-- 0xF0 `BEQ rel8` (R203). -/
def execBeq (rel8 : Byte) (s : State) : Out :=
  runInstr 0xF0 (.relative rel8) opBeq s

/-- BNE (R204): `return Branch(P.Z = 0)`. -/
def opBne (_ : Operand) (s : State) : State × Bool := (branch (!getFlag s.p .Z) s, false)

/-- 0xD0 `BNE rel8` (R204). -/
def execBne (rel8 : Byte) (s : State) : Out :=
  runInstr 0xD0 (.relative rel8) opBne s

/-- BMI (R205): `return Branch(P.N = 1)`. -/
def opBmi (_ : Operand) (s : State) : State × Bool := (branch (getFlag s.p .N) s, false)

/-- 0x30 `BMI rel8` (R205). -/
def execBmi (rel8 : Byte) (s : State) : Out :=
  runInstr 0x30 (.relative rel8) opBmi s

/-- BPL (R206): `return Branch(P.N = 0)`. -/
def opBpl (_ : Operand) (s : State) : State × Bool := (branch (!getFlag s.p .N) s, false)

/-- 0x10 `BPL rel8` (R206). -/
def execBpl (rel8 : Byte) (s : State) : Out :=
  runInstr 0x10 (.relative rel8) opBpl s

/-- BVC (R207): `return Branch(P.V = 0)`. -/
def opBvc (_ : Operand) (s : State) : State × Bool := (branch (!getFlag s.p .V) s, false)

/-- 0x50 `BVC rel8` (R207). -/
def execBvc (rel8 : Byte) (s : State) : Out :=
  runInstr 0x50 (.relative rel8) opBvc s

/-- BVS (R208): `return Branch(P.V = 1)`. -/
def opBvs (_ : Operand) (s : State) : State × Bool := (branch (getFlag s.p .V) s, false)

/-- 0x70 `BVS rel8` (R208). -/
def execBvs (rel8 : Byte) (s : State) : Out :=
  runInstr 0x70 (.relative rel8) opBvs s

/-- JMP (R209): `PC <- addr_abs; return 0`. -/
def opJmp (_ : Operand) (s : State) : State × Bool := (s.setPc s.addrAbs, false)

/-- 0x4C `JMP abs16` (R209). -/
def execJmpAbs (abs16 : Addr) (s : State) : Out :=
  runInstr 0x4C (.absolute abs16) opJmp s

/-- 0x6C `JMP (ptr16)` (R209). -/
def execJmpInd (ptr16 : Addr) (s : State) : Out :=
  runInstr 0x6C (.indirect ptr16) opJmp s

/-- JSR (R210): `PC` minus one is pushed, high byte first, then `PC <- addr_abs`; `return 0`. -/
def opJsr (_ : Operand) (s : State) : State × Bool :=
  ((pushWord (s.pc - 1) s).setPc s.addrAbs, false)

/-- 0x20 `JSR abs16` (R210). -/
def execJsr (abs16 : Addr) (s : State) : Out :=
  runInstr 0x20 (.absolute abs16) opJsr s

/-- RTS (R211): pops low then high byte, and adds one; `return 0`. -/
def opRts (_ : Operand) (s : State) : State × Bool :=
  ((popWordState s).setPc (popWord s + 1), false)

/-- 0x60 `RTS` (R211). -/
def execRts (s : State) : Out :=
  runInstr 0x60 .implied opRts s

end Sys2Proof.Machine
end

