-- ==== Sys2Proof/Machine/IncDec.lean ====
section
/-! DEFINITION. Increments and decrements, modulo 256; none writes C or V (spec/46_inc_dec.md R190 to R195). -/

namespace Sys2Proof.Machine

/-- The read, then the write, of the same address, with `SetZN` of the value stored (R190, R191). -/
def modifyMemory (r : Byte) (o : Operand) (s : State) : State :=
  ((fetch o s).write s.addrAbs r).setP (setZN r s.p)

/-- INC (R190): `r <- m +_8 1`; `return 0`. -/
def opInc (o : Operand) (s : State) : State × Bool := (modifyMemory (operandByte o s + 1) o s, false)

/-- 0xE6 `INC zp8` (R190). -/
def execIncZp0 (zp8 : Byte) (s : State) : Out :=
  runInstr 0xE6 (.zeroPage zp8) opInc s

/-- 0xF6 `INC zp8,X` (R190). -/
def execIncZpx (zp8 : Byte) (s : State) : Out :=
  runInstr 0xF6 (.zeroPageX zp8) opInc s

/-- 0xEE `INC abs16` (R190). -/
def execIncAbs (abs16 : Addr) (s : State) : Out :=
  runInstr 0xEE (.absolute abs16) opInc s

/-- 0xFE `INC abs16,X` (R190). -/
def execIncAbx (abs16 : Addr) (s : State) : Out :=
  runInstr 0xFE (.absoluteX abs16) opInc s

/-- DEC (R191): `r <- m -_8 1`; `return 0`. -/
def opDec (o : Operand) (s : State) : State × Bool := (modifyMemory (operandByte o s - 1) o s, false)

/-- 0xC6 `DEC zp8` (R191). -/
def execDecZp0 (zp8 : Byte) (s : State) : Out :=
  runInstr 0xC6 (.zeroPage zp8) opDec s

/-- 0xD6 `DEC zp8,X` (R191). -/
def execDecZpx (zp8 : Byte) (s : State) : Out :=
  runInstr 0xD6 (.zeroPageX zp8) opDec s

/-- 0xCE `DEC abs16` (R191). -/
def execDecAbs (abs16 : Addr) (s : State) : Out :=
  runInstr 0xCE (.absolute abs16) opDec s

/-- 0xDE `DEC abs16,X` (R191). -/
def execDecAbx (abs16 : Addr) (s : State) : Out :=
  runInstr 0xDE (.absoluteX abs16) opDec s

/-- INX (R192): `X <- X +_8 1; SetZN(X); return 0`. -/
def opInx (_ : Operand) (s : State) : State × Bool :=
  ((s.setX (s.x + 1)).setP (setZN (s.x + 1) s.p), false)

/-- 0xE8 `INX` (R192). -/
def execInx (s : State) : Out :=
  runInstr 0xE8 .implied opInx s

/-- DEX (R193): `X <- X -_8 1; SetZN(X); return 0`. -/
def opDex (_ : Operand) (s : State) : State × Bool :=
  ((s.setX (s.x - 1)).setP (setZN (s.x - 1) s.p), false)

/-- 0xCA `DEX` (R193). -/
def execDex (s : State) : Out :=
  runInstr 0xCA .implied opDex s

/-- INY (R194): `Y <- Y +_8 1; SetZN(Y); return 0`. -/
def opIny (_ : Operand) (s : State) : State × Bool :=
  ((s.setY (s.y + 1)).setP (setZN (s.y + 1) s.p), false)

/-- 0xC8 `INY` (R194). -/
def execIny (s : State) : Out :=
  runInstr 0xC8 .implied opIny s

/-- DEY (R195): `Y <- Y -_8 1; SetZN(Y); return 0`. -/
def opDey (_ : Operand) (s : State) : State × Bool :=
  ((s.setY (s.y - 1)).setP (setZN (s.y - 1) s.p), false)

/-- 0x88 `DEY` (R195). -/
def execDey (s : State) : Out :=
  runInstr 0x88 .implied opDey s

end Sys2Proof.Machine
end

