-- ==== Sys2Proof/Machine/LoadStore.lean ====
section
/-! DEFINITION. Loads and stores (spec/42_load_store.md R150 to R156). -/

namespace Sys2Proof.Machine

/-- `Fetch()` into a register: the byte fetched, and `SetZN` of it in `P`; the register itself is
written by the caller (R150 to R152). -/
def loadByte (o : Operand) (s : State) : State :=
  (fetch o s).setP (setZN (operandByte o s) s.p)

/-- LDA (R150): `A <- Fetch(); SetZN(A); return 1`. -/
def opLda (o : Operand) (s : State) : State × Bool :=
  ((loadByte o s).setA (operandByte o s), true)

/-- 0xA9 `LDA #imm8` (R150). -/
def execLdaImm (imm8 : Byte) (s : State) : Out :=
  runInstr 0xA9 (.immediate imm8) opLda s

/-- 0xA5 `LDA zp8` (R150). -/
def execLdaZp0 (zp8 : Byte) (s : State) : Out :=
  runInstr 0xA5 (.zeroPage zp8) opLda s

/-- 0xB5 `LDA zp8,X` (R150). -/
def execLdaZpx (zp8 : Byte) (s : State) : Out :=
  runInstr 0xB5 (.zeroPageX zp8) opLda s

/-- 0xAD `LDA abs16` (R150). -/
def execLdaAbs (abs16 : Addr) (s : State) : Out :=
  runInstr 0xAD (.absolute abs16) opLda s

/-- 0xBD `LDA abs16,X` (R150). -/
def execLdaAbx (abs16 : Addr) (s : State) : Out :=
  runInstr 0xBD (.absoluteX abs16) opLda s

/-- 0xB9 `LDA abs16,Y` (R150). -/
def execLdaAby (abs16 : Addr) (s : State) : Out :=
  runInstr 0xB9 (.absoluteY abs16) opLda s

/-- 0xA1 `LDA (zp8,X)` (R150). -/
def execLdaIzx (zp8 : Byte) (s : State) : Out :=
  runInstr 0xA1 (.indexedIndirectX zp8) opLda s

/-- 0xB1 `LDA (zp8),Y` (R150). -/
def execLdaIzy (zp8 : Byte) (s : State) : Out :=
  runInstr 0xB1 (.indirectIndexedY zp8) opLda s

/-- LDX (R151): `X <- Fetch(); SetZN(X); return 1`. -/
def opLdx (o : Operand) (s : State) : State × Bool :=
  ((loadByte o s).setX (operandByte o s), true)

/-- 0xA2 `LDX #imm8` (R151). -/
def execLdxImm (imm8 : Byte) (s : State) : Out :=
  runInstr 0xA2 (.immediate imm8) opLdx s

/-- 0xA6 `LDX zp8` (R151). -/
def execLdxZp0 (zp8 : Byte) (s : State) : Out :=
  runInstr 0xA6 (.zeroPage zp8) opLdx s

/-- 0xB6 `LDX zp8,Y` (R151). -/
def execLdxZpy (zp8 : Byte) (s : State) : Out :=
  runInstr 0xB6 (.zeroPageY zp8) opLdx s

/-- 0xAE `LDX abs16` (R151). -/
def execLdxAbs (abs16 : Addr) (s : State) : Out :=
  runInstr 0xAE (.absolute abs16) opLdx s

/-- 0xBE `LDX abs16,Y` (R151). -/
def execLdxAby (abs16 : Addr) (s : State) : Out :=
  runInstr 0xBE (.absoluteY abs16) opLdx s

/-- LDY (R152): `Y <- Fetch(); SetZN(Y); return 1`. -/
def opLdy (o : Operand) (s : State) : State × Bool :=
  ((loadByte o s).setY (operandByte o s), true)

/-- 0xA0 `LDY #imm8` (R152). -/
def execLdyImm (imm8 : Byte) (s : State) : Out :=
  runInstr 0xA0 (.immediate imm8) opLdy s

/-- 0xA4 `LDY zp8` (R152). -/
def execLdyZp0 (zp8 : Byte) (s : State) : Out :=
  runInstr 0xA4 (.zeroPage zp8) opLdy s

/-- 0xB4 `LDY zp8,X` (R152). -/
def execLdyZpx (zp8 : Byte) (s : State) : Out :=
  runInstr 0xB4 (.zeroPageX zp8) opLdy s

/-- 0xAC `LDY abs16` (R152). -/
def execLdyAbs (abs16 : Addr) (s : State) : Out :=
  runInstr 0xAC (.absolute abs16) opLdy s

/-- 0xBC `LDY abs16,X` (R152). -/
def execLdyAbx (abs16 : Addr) (s : State) : Out :=
  runInstr 0xBC (.absoluteX abs16) opLdy s

/-- STA (R153): `MemWrite(addr_abs, 1, A); return 0`. -/
def opSta (_ : Operand) (s : State) : State × Bool := (s.write s.addrAbs s.a, false)

/-- 0x85 `STA zp8` (R153). -/
def execStaZp0 (zp8 : Byte) (s : State) : Out :=
  runInstr 0x85 (.zeroPage zp8) opSta s

/-- 0x95 `STA zp8,X` (R153). -/
def execStaZpx (zp8 : Byte) (s : State) : Out :=
  runInstr 0x95 (.zeroPageX zp8) opSta s

/-- 0x8D `STA abs16` (R153). -/
def execStaAbs (abs16 : Addr) (s : State) : Out :=
  runInstr 0x8D (.absolute abs16) opSta s

/-- 0x9D `STA abs16,X` (R153). -/
def execStaAbx (abs16 : Addr) (s : State) : Out :=
  runInstr 0x9D (.absoluteX abs16) opSta s

/-- 0x99 `STA abs16,Y` (R153). -/
def execStaAby (abs16 : Addr) (s : State) : Out :=
  runInstr 0x99 (.absoluteY abs16) opSta s

/-- 0x81 `STA (zp8,X)` (R153). -/
def execStaIzx (zp8 : Byte) (s : State) : Out :=
  runInstr 0x81 (.indexedIndirectX zp8) opSta s

/-- 0x91 `STA (zp8),Y` (R153). -/
def execStaIzy (zp8 : Byte) (s : State) : Out :=
  runInstr 0x91 (.indirectIndexedY zp8) opSta s

/-- STX (R154): `MemWrite(addr_abs, 1, X); return 0`. -/
def opStx (_ : Operand) (s : State) : State × Bool := (s.write s.addrAbs s.x, false)

/-- 0x86 `STX zp8` (R154). -/
def execStxZp0 (zp8 : Byte) (s : State) : Out :=
  runInstr 0x86 (.zeroPage zp8) opStx s

/-- 0x96 `STX zp8,Y` (R154). -/
def execStxZpy (zp8 : Byte) (s : State) : Out :=
  runInstr 0x96 (.zeroPageY zp8) opStx s

/-- 0x8E `STX abs16` (R154). -/
def execStxAbs (abs16 : Addr) (s : State) : Out :=
  runInstr 0x8E (.absolute abs16) opStx s

/-- STY (R155): `MemWrite(addr_abs, 1, Y); return 0`. -/
def opSty (_ : Operand) (s : State) : State × Bool := (s.write s.addrAbs s.y, false)

/-- 0x84 `STY zp8` (R155). -/
def execStyZp0 (zp8 : Byte) (s : State) : Out :=
  runInstr 0x84 (.zeroPage zp8) opSty s

/-- 0x94 `STY zp8,X` (R155). -/
def execStyZpx (zp8 : Byte) (s : State) : Out :=
  runInstr 0x94 (.zeroPageX zp8) opSty s

/-- 0x8C `STY abs16` (R155). -/
def execStyAbs (abs16 : Addr) (s : State) : Out :=
  runInstr 0x8C (.absolute abs16) opSty s

end Sys2Proof.Machine
end

