-- ==== Sys2Proof/Machine/Logical.lean ====
section
/-! DEFINITION. Logical operations and bit test (spec/44_logical_bit.md R170 to R173). -/

namespace Sys2Proof.Machine

/-- A logical result into `A`, with `SetZN` of it (R170 to R172). -/
def logicResult (r : Byte) (s : State) : State := (s.setA r).setP (setZN r s.p)

/-- AND (R170): `A <- A & Fetch(); SetZN(A); return 1`. -/
def opAnd (o : Operand) (s : State) : State × Bool :=
  (logicResult (s.a &&& operandByte o s) (fetch o s), true)

/-- 0x29 `AND #imm8` (R170). -/
def execAndImm (imm8 : Byte) (s : State) : Out :=
  runInstr 0x29 (.immediate imm8) opAnd s

/-- 0x25 `AND zp8` (R170). -/
def execAndZp0 (zp8 : Byte) (s : State) : Out :=
  runInstr 0x25 (.zeroPage zp8) opAnd s

/-- 0x35 `AND zp8,X` (R170). -/
def execAndZpx (zp8 : Byte) (s : State) : Out :=
  runInstr 0x35 (.zeroPageX zp8) opAnd s

/-- 0x2D `AND abs16` (R170). -/
def execAndAbs (abs16 : Addr) (s : State) : Out :=
  runInstr 0x2D (.absolute abs16) opAnd s

/-- 0x3D `AND abs16,X` (R170). -/
def execAndAbx (abs16 : Addr) (s : State) : Out :=
  runInstr 0x3D (.absoluteX abs16) opAnd s

/-- 0x39 `AND abs16,Y` (R170). -/
def execAndAby (abs16 : Addr) (s : State) : Out :=
  runInstr 0x39 (.absoluteY abs16) opAnd s

/-- 0x21 `AND (zp8,X)` (R170). -/
def execAndIzx (zp8 : Byte) (s : State) : Out :=
  runInstr 0x21 (.indexedIndirectX zp8) opAnd s

/-- 0x31 `AND (zp8),Y` (R170). -/
def execAndIzy (zp8 : Byte) (s : State) : Out :=
  runInstr 0x31 (.indirectIndexedY zp8) opAnd s

/-- ORA (R171): `A <- A | Fetch(); SetZN(A); return 1`. -/
def opOra (o : Operand) (s : State) : State × Bool :=
  (logicResult (s.a ||| operandByte o s) (fetch o s), true)

/-- 0x09 `ORA #imm8` (R171). -/
def execOraImm (imm8 : Byte) (s : State) : Out :=
  runInstr 0x09 (.immediate imm8) opOra s

/-- 0x05 `ORA zp8` (R171). -/
def execOraZp0 (zp8 : Byte) (s : State) : Out :=
  runInstr 0x05 (.zeroPage zp8) opOra s

/-- 0x15 `ORA zp8,X` (R171). -/
def execOraZpx (zp8 : Byte) (s : State) : Out :=
  runInstr 0x15 (.zeroPageX zp8) opOra s

/-- 0x0D `ORA abs16` (R171). -/
def execOraAbs (abs16 : Addr) (s : State) : Out :=
  runInstr 0x0D (.absolute abs16) opOra s

/-- 0x1D `ORA abs16,X` (R171). -/
def execOraAbx (abs16 : Addr) (s : State) : Out :=
  runInstr 0x1D (.absoluteX abs16) opOra s

/-- 0x19 `ORA abs16,Y` (R171). -/
def execOraAby (abs16 : Addr) (s : State) : Out :=
  runInstr 0x19 (.absoluteY abs16) opOra s

/-- 0x01 `ORA (zp8,X)` (R171). -/
def execOraIzx (zp8 : Byte) (s : State) : Out :=
  runInstr 0x01 (.indexedIndirectX zp8) opOra s

/-- 0x11 `ORA (zp8),Y` (R171). -/
def execOraIzy (zp8 : Byte) (s : State) : Out :=
  runInstr 0x11 (.indirectIndexedY zp8) opOra s

/-- EOR (R172): `A <- A ^ Fetch(); SetZN(A); return 1`. -/
def opEor (o : Operand) (s : State) : State × Bool :=
  (logicResult (s.a ^^^ operandByte o s) (fetch o s), true)

/-- 0x49 `EOR #imm8` (R172). -/
def execEorImm (imm8 : Byte) (s : State) : Out :=
  runInstr 0x49 (.immediate imm8) opEor s

/-- 0x45 `EOR zp8` (R172). -/
def execEorZp0 (zp8 : Byte) (s : State) : Out :=
  runInstr 0x45 (.zeroPage zp8) opEor s

/-- 0x55 `EOR zp8,X` (R172). -/
def execEorZpx (zp8 : Byte) (s : State) : Out :=
  runInstr 0x55 (.zeroPageX zp8) opEor s

/-- 0x4D `EOR abs16` (R172). -/
def execEorAbs (abs16 : Addr) (s : State) : Out :=
  runInstr 0x4D (.absolute abs16) opEor s

/-- 0x5D `EOR abs16,X` (R172). -/
def execEorAbx (abs16 : Addr) (s : State) : Out :=
  runInstr 0x5D (.absoluteX abs16) opEor s

/-- 0x59 `EOR abs16,Y` (R172). -/
def execEorAby (abs16 : Addr) (s : State) : Out :=
  runInstr 0x59 (.absoluteY abs16) opEor s

/-- 0x41 `EOR (zp8,X)` (R172). -/
def execEorIzx (zp8 : Byte) (s : State) : Out :=
  runInstr 0x41 (.indexedIndirectX zp8) opEor s

/-- 0x51 `EOR (zp8),Y` (R172). -/
def execEorIzy (zp8 : Byte) (s : State) : Out :=
  runInstr 0x51 (.indirectIndexedY zp8) opEor s

/-- BIT (R173): Z from `A & m`, N and V from `m`; the and is not stored; `return 0`. -/
def opBit (o : Operand) (s : State) : State × Bool :=
  ((fetch o s).setP (bitFlags s.a (operandByte o s) s.p), false)

/-- 0x24 `BIT zp8` (R173). -/
def execBitZp0 (zp8 : Byte) (s : State) : Out :=
  runInstr 0x24 (.zeroPage zp8) opBit s

/-- 0x2C `BIT abs16` (R173). -/
def execBitAbs (abs16 : Addr) (s : State) : Out :=
  runInstr 0x2C (.absolute abs16) opBit s

end Sys2Proof.Machine
end

