-- ==== Sys2Proof/Machine/Shift.lean ====
section
/-! DEFINITION. Shifts and rotates by one bit, on `A` or on memory (spec/45_shift_rotate.md R180 to R184). -/

namespace Sys2Proof.Machine

/-- The common part (R180): fetch, then C, Z and N, then the result to `A` or to memory. -/
def shiftWith (carry : Bool) (r : Byte) (o : Operand) (s : State) : State :=
  writeBack o r ((fetch o s).setP (shiftFlags carry r s.p))

/-- `(m << 1)[7:0]` (R181). -/
def aslResult (m : Byte) : Byte := m <<< 1

/-- `m >> 1` (R182). -/
def lsrResult (m : Byte) : Byte := m >>> 1

/-- `((m << 1) | P.C)[7:0]`: the old carry enters at bit 0 (R183). -/
def rolResult (c : Bool) (m : Byte) : Byte := (m <<< 1) ||| (if c then 0x01 else 0x00)

/-- `(P.C << 7) | (m >> 1)`: the old carry enters at bit 7 (R184). -/
def rorResult (c : Bool) (m : Byte) : Byte := (if c then 0x80 else 0x00) ||| (m >>> 1)

/-- ASL (R181): C is bit 7 of the operand; `return 0`. -/
def opAsl (o : Operand) (s : State) : State × Bool :=
  (shiftWith ((operandByte o s).getLsbD 7) (aslResult (operandByte o s)) o s, false)

/-- 0x0A `ASL` (R181). -/
def execAslImp (s : State) : Out :=
  runInstr 0x0A .implied opAsl s

/-- 0x06 `ASL zp8` (R181). -/
def execAslZp0 (zp8 : Byte) (s : State) : Out :=
  runInstr 0x06 (.zeroPage zp8) opAsl s

/-- 0x16 `ASL zp8,X` (R181). -/
def execAslZpx (zp8 : Byte) (s : State) : Out :=
  runInstr 0x16 (.zeroPageX zp8) opAsl s

/-- 0x0E `ASL abs16` (R181). -/
def execAslAbs (abs16 : Addr) (s : State) : Out :=
  runInstr 0x0E (.absolute abs16) opAsl s

/-- 0x1E `ASL abs16,X` (R181). -/
def execAslAbx (abs16 : Addr) (s : State) : Out :=
  runInstr 0x1E (.absoluteX abs16) opAsl s

/-- LSR (R182): C is bit 0 of the operand; `return 0`. -/
def opLsr (o : Operand) (s : State) : State × Bool :=
  (shiftWith ((operandByte o s).getLsbD 0) (lsrResult (operandByte o s)) o s, false)

/-- 0x4A `LSR` (R182). -/
def execLsrImp (s : State) : Out :=
  runInstr 0x4A .implied opLsr s

/-- 0x46 `LSR zp8` (R182). -/
def execLsrZp0 (zp8 : Byte) (s : State) : Out :=
  runInstr 0x46 (.zeroPage zp8) opLsr s

/-- 0x56 `LSR zp8,X` (R182). -/
def execLsrZpx (zp8 : Byte) (s : State) : Out :=
  runInstr 0x56 (.zeroPageX zp8) opLsr s

/-- 0x4E `LSR abs16` (R182). -/
def execLsrAbs (abs16 : Addr) (s : State) : Out :=
  runInstr 0x4E (.absolute abs16) opLsr s

/-- 0x5E `LSR abs16,X` (R182). -/
def execLsrAbx (abs16 : Addr) (s : State) : Out :=
  runInstr 0x5E (.absoluteX abs16) opLsr s

/-- ROL (R183): C is bit 7 of the operand; `return 0`. -/
def opRol (o : Operand) (s : State) : State × Bool :=
  (shiftWith ((operandByte o s).getLsbD 7) (rolResult (getFlag s.p .C) (operandByte o s)) o s, false)

/-- 0x2A `ROL` (R183). -/
def execRolImp (s : State) : Out :=
  runInstr 0x2A .implied opRol s

/-- 0x26 `ROL zp8` (R183). -/
def execRolZp0 (zp8 : Byte) (s : State) : Out :=
  runInstr 0x26 (.zeroPage zp8) opRol s

/-- 0x36 `ROL zp8,X` (R183). -/
def execRolZpx (zp8 : Byte) (s : State) : Out :=
  runInstr 0x36 (.zeroPageX zp8) opRol s

/-- 0x2E `ROL abs16` (R183). -/
def execRolAbs (abs16 : Addr) (s : State) : Out :=
  runInstr 0x2E (.absolute abs16) opRol s

/-- 0x3E `ROL abs16,X` (R183). -/
def execRolAbx (abs16 : Addr) (s : State) : Out :=
  runInstr 0x3E (.absoluteX abs16) opRol s

/-- ROR (R184): C is bit 0 of the operand; `return 0`. -/
def opRor (o : Operand) (s : State) : State × Bool :=
  (shiftWith ((operandByte o s).getLsbD 0) (rorResult (getFlag s.p .C) (operandByte o s)) o s, false)

/-- 0x6A `ROR` (R184). -/
def execRorImp (s : State) : Out :=
  runInstr 0x6A .implied opRor s

/-- 0x66 `ROR zp8` (R184). -/
def execRorZp0 (zp8 : Byte) (s : State) : Out :=
  runInstr 0x66 (.zeroPage zp8) opRor s

/-- 0x76 `ROR zp8,X` (R184). -/
def execRorZpx (zp8 : Byte) (s : State) : Out :=
  runInstr 0x76 (.zeroPageX zp8) opRor s

/-- 0x6E `ROR abs16` (R184). -/
def execRorAbs (abs16 : Addr) (s : State) : Out :=
  runInstr 0x6E (.absolute abs16) opRor s

/-- 0x7E `ROR abs16,X` (R184). -/
def execRorAbx (abs16 : Addr) (s : State) : Out :=
  runInstr 0x7E (.absoluteX abs16) opRor s

end Sys2Proof.Machine
end

