-- ==== Sys2Proof/Machine/StackFlag.lean ====
section
/-! DEFINITION. Stack, flag and register-transfer instructions (spec/48_stack_flag_transfer.md R220 to R236). -/

namespace Sys2Proof.Machine

/-- PHA (R220): `Push(A); return 0`. -/
def opPha (_ : Operand) (s : State) : State × Bool := (push s.a s, false)

/-- 0x48 `PHA` (R220). -/
def execPha (s : State) : Out :=
  runInstr 0x48 .implied opPha s

/-- PHP (R221): `Push(P | 0x30); return 0`; the live `P` is unchanged. -/
def opPhp (_ : Operand) (s : State) : State × Bool := (push (phpByte s.p) s, false)

/-- 0x08 `PHP` (R221). -/
def execPhp (s : State) : Out :=
  runInstr 0x08 .implied opPhp s

/-- PLA (R222): `A <- Pop(); SetZN(A); return 0`. -/
def opPla (_ : Operand) (s : State) : State × Bool :=
  (((popState s).setA (popByte s)).setP (setZN (popByte s) s.p), false)

/-- 0x68 `PLA` (R222). -/
def execPla (s : State) : Out :=
  runInstr 0x68 .implied opPla s

/-- PLP (R223): `P <- Pop() | 0x20; return 0`. -/
def opPlp (_ : Operand) (s : State) : State × Bool :=
  ((popState s).setP (plpByte (popByte s)), false)

/-- 0x28 `PLP` (R223). -/
def execPlp (s : State) : Out :=
  runInstr 0x28 .implied opPlp s

/-- SEC (R224): `P.C <- 1; return 0`. -/
def opSec (_ : Operand) (s : State) : State × Bool :=
  (s.setP (setFlag s.p .C true), false)

/-- 0x38 `SEC` (R224). -/
def execSec (s : State) : Out :=
  runInstr 0x38 .implied opSec s

/-- CLC (R225): `P.C <- 0; return 0`. -/
def opClc (_ : Operand) (s : State) : State × Bool :=
  (s.setP (setFlag s.p .C false), false)

/-- 0x18 `CLC` (R225). -/
def execClc (s : State) : Out :=
  runInstr 0x18 .implied opClc s

/-- SED (R226): `P.D <- 1; return 0`. -/
def opSed (_ : Operand) (s : State) : State × Bool :=
  (s.setP (setFlag s.p .D true), false)

/-- 0xF8 `SED` (R226). -/
def execSed (s : State) : Out :=
  runInstr 0xF8 .implied opSed s

/-- CLD (R227): `P.D <- 0; return 0`. -/
def opCld (_ : Operand) (s : State) : State × Bool :=
  (s.setP (setFlag s.p .D false), false)

/-- 0xD8 `CLD` (R227). -/
def execCld (s : State) : Out :=
  runInstr 0xD8 .implied opCld s

/-- SEI (R228): `P.I <- 1; return 0`. -/
def opSei (_ : Operand) (s : State) : State × Bool :=
  (s.setP (setFlag s.p .I true), false)

/-- 0x78 `SEI` (R228). -/
def execSei (s : State) : Out :=
  runInstr 0x78 .implied opSei s

/-- CLI (R229): `P.I <- 0; return 0`. -/
def opCli (_ : Operand) (s : State) : State × Bool :=
  (s.setP (setFlag s.p .I false), false)

/-- 0x58 `CLI` (R229). -/
def execCli (s : State) : Out :=
  runInstr 0x58 .implied opCli s

/-- CLV (R230): `P.V <- 0; return 0`. -/
def opClv (_ : Operand) (s : State) : State × Bool :=
  (s.setP (setFlag s.p .V false), false)

/-- 0xB8 `CLV` (R230). -/
def execClv (s : State) : Out :=
  runInstr 0xB8 .implied opClv s

/-- TAX (R231): `X <- A; SetZN(X); return 0`. -/
def opTax (_ : Operand) (s : State) : State × Bool :=
  ((s.setX s.a).setP (setZN s.a s.p), false)

/-- 0xAA `TAX` (R231). -/
def execTax (s : State) : Out :=
  runInstr 0xAA .implied opTax s

/-- TAY (R232): `Y <- A; SetZN(Y); return 0`. -/
def opTay (_ : Operand) (s : State) : State × Bool :=
  ((s.setY s.a).setP (setZN s.a s.p), false)

/-- 0xA8 `TAY` (R232). -/
def execTay (s : State) : Out :=
  runInstr 0xA8 .implied opTay s

/-- TXA (R233): `A <- X; SetZN(A); return 0`. -/
def opTxa (_ : Operand) (s : State) : State × Bool :=
  ((s.setA s.x).setP (setZN s.x s.p), false)

/-- 0x8A `TXA` (R233). -/
def execTxa (s : State) : Out :=
  runInstr 0x8A .implied opTxa s

/-- TYA (R234): `A <- Y; SetZN(A); return 0`. -/
def opTya (_ : Operand) (s : State) : State × Bool :=
  ((s.setA s.y).setP (setZN s.y s.p), false)

/-- 0x98 `TYA` (R234). -/
def execTya (s : State) : Out :=
  runInstr 0x98 .implied opTya s

/-- TSX (R235): `X <- SP; SetZN(X); return 0`. -/
def opTsx (_ : Operand) (s : State) : State × Bool :=
  ((s.setX s.sp).setP (setZN s.sp s.p), false)

/-- 0xBA `TSX` (R235). -/
def execTsx (s : State) : Out :=
  runInstr 0xBA .implied opTsx s

/-- TXS (R236): `SP <- X; return 0`; no flag. -/
def opTxs (_ : Operand) (s : State) : State × Bool := (s.setSp s.x, false)

/-- 0x9A `TXS` (R236). -/
def execTxs (s : State) : Out :=
  runInstr 0x9A .implied opTxs s

end Sys2Proof.Machine
end

