-- ==== Sys2Proof/Machine/System.lean ====
section
/-! DEFINITION. BRK, RTI, NOP and the placeholder (spec/49_system.md R250 to R253). -/

namespace Sys2Proof.Machine

/-- BRK (R250): `PC` past the signature byte, which is not read; the pushed status has I and B set;
the live `P` keeps I and clears B; `PC` from 0xFFFE; `return 0`. -/
def opBrk (_ : Operand) (s : State) : State × Bool :=
  (takeInterrupt (s.pc + 1) (brkByte s.p) (setFlag (brkByte s.p) .B false) irqVector s, false)

/-- 0x00 `BRK` (R250). -/
def execBrk (s : State) : Out :=
  runInstr 0x00 .implied opBrk s

/-- RTI (R251): `P`, then `PC`, from the stack; `return 0`. -/
def opRti (_ : Operand) (s : State) : State × Bool := (returnFromInterrupt s, false)

/-- 0x40 `RTI` (R251). -/
def execRti (s : State) : Out :=
  runInstr 0x40 .implied opRti s

/-- NOP (R252): writes nothing; signals an extra cycle when `opcode` is in `EXTRA_NOP_OPCODES`. -/
def opNop (_ : Operand) (s : State) : State × Bool :=
  (s, s.config.extraNopOpcodes.contains s.opcode)

/-- 0xEA `NOP` (R252). -/
def execNop (s : State) : Out :=
  runInstr 0xEA .implied opNop s

/-- `XXX`, the no-effect operation of the placeholder (R253): `return 0`. -/
def opXxx (_ : Operand) (s : State) : State × Bool := (s, false)

/-- `???`, each of the 105 unassigned opcode bytes (R253, R89). -/
def execUnimplemented (opcode : Byte) (s : State) : Out :=
  runInstr opcode .implied opXxx s

end Sys2Proof.Machine
end

