-- ==== Sys2Proof/Machine/Dispatch.lean ====
section
/-! DEFINITION. The meaning of each instruction, by constructor of `Instr`. -/

namespace Sys2Proof.Machine

-- What an instruction does in its boundary `Clock`, less that call's own countdown (spec/40_sequencer.md R110).
def exec (i : Instr) (s : State) : Host.Outcome State Fault Refusal :=
  match i with
  -- 42_load_store.md
  | .ldaImm imm8 => Sys2Proof.Machine.execLdaImm imm8 s
  | .ldaZp0 zp8 => Sys2Proof.Machine.execLdaZp0 zp8 s
  | .ldaZpx zp8 => Sys2Proof.Machine.execLdaZpx zp8 s
  | .ldaAbs abs16 => Sys2Proof.Machine.execLdaAbs abs16 s
  | .ldaAbx abs16 => Sys2Proof.Machine.execLdaAbx abs16 s
  | .ldaAby abs16 => Sys2Proof.Machine.execLdaAby abs16 s
  | .ldaIzx zp8 => Sys2Proof.Machine.execLdaIzx zp8 s
  | .ldaIzy zp8 => Sys2Proof.Machine.execLdaIzy zp8 s
  | .ldxImm imm8 => Sys2Proof.Machine.execLdxImm imm8 s
  | .ldxZp0 zp8 => Sys2Proof.Machine.execLdxZp0 zp8 s
  | .ldxZpy zp8 => Sys2Proof.Machine.execLdxZpy zp8 s
  | .ldxAbs abs16 => Sys2Proof.Machine.execLdxAbs abs16 s
  | .ldxAby abs16 => Sys2Proof.Machine.execLdxAby abs16 s
  | .ldyImm imm8 => Sys2Proof.Machine.execLdyImm imm8 s
  | .ldyZp0 zp8 => Sys2Proof.Machine.execLdyZp0 zp8 s
  | .ldyZpx zp8 => Sys2Proof.Machine.execLdyZpx zp8 s
  | .ldyAbs abs16 => Sys2Proof.Machine.execLdyAbs abs16 s
  | .ldyAbx abs16 => Sys2Proof.Machine.execLdyAbx abs16 s
  | .staZp0 zp8 => Sys2Proof.Machine.execStaZp0 zp8 s
  | .staZpx zp8 => Sys2Proof.Machine.execStaZpx zp8 s
  | .staAbs abs16 => Sys2Proof.Machine.execStaAbs abs16 s
  | .staAbx abs16 => Sys2Proof.Machine.execStaAbx abs16 s
  | .staAby abs16 => Sys2Proof.Machine.execStaAby abs16 s
  | .staIzx zp8 => Sys2Proof.Machine.execStaIzx zp8 s
  | .staIzy zp8 => Sys2Proof.Machine.execStaIzy zp8 s
  | .stxZp0 zp8 => Sys2Proof.Machine.execStxZp0 zp8 s
  | .stxZpy zp8 => Sys2Proof.Machine.execStxZpy zp8 s
  | .stxAbs abs16 => Sys2Proof.Machine.execStxAbs abs16 s
  | .styZp0 zp8 => Sys2Proof.Machine.execStyZp0 zp8 s
  | .styZpx zp8 => Sys2Proof.Machine.execStyZpx zp8 s
  | .styAbs abs16 => Sys2Proof.Machine.execStyAbs abs16 s
  -- 43_arithmetic_compare.md
  | .adcImm imm8 => Sys2Proof.Machine.execAdcImm imm8 s
  | .adcZp0 zp8 => Sys2Proof.Machine.execAdcZp0 zp8 s
  | .adcZpx zp8 => Sys2Proof.Machine.execAdcZpx zp8 s
  | .adcAbs abs16 => Sys2Proof.Machine.execAdcAbs abs16 s
  | .adcAbx abs16 => Sys2Proof.Machine.execAdcAbx abs16 s
  | .adcAby abs16 => Sys2Proof.Machine.execAdcAby abs16 s
  | .adcIzx zp8 => Sys2Proof.Machine.execAdcIzx zp8 s
  | .adcIzy zp8 => Sys2Proof.Machine.execAdcIzy zp8 s
  | .sbcImm imm8 => Sys2Proof.Machine.execSbcImm imm8 s
  | .sbcZp0 zp8 => Sys2Proof.Machine.execSbcZp0 zp8 s
  | .sbcZpx zp8 => Sys2Proof.Machine.execSbcZpx zp8 s
  | .sbcAbs abs16 => Sys2Proof.Machine.execSbcAbs abs16 s
  | .sbcAbx abs16 => Sys2Proof.Machine.execSbcAbx abs16 s
  | .sbcAby abs16 => Sys2Proof.Machine.execSbcAby abs16 s
  | .sbcIzx zp8 => Sys2Proof.Machine.execSbcIzx zp8 s
  | .sbcIzy zp8 => Sys2Proof.Machine.execSbcIzy zp8 s
  | .cmpImm imm8 => Sys2Proof.Machine.execCmpImm imm8 s
  | .cmpZp0 zp8 => Sys2Proof.Machine.execCmpZp0 zp8 s
  | .cmpZpx zp8 => Sys2Proof.Machine.execCmpZpx zp8 s
  | .cmpAbs abs16 => Sys2Proof.Machine.execCmpAbs abs16 s
  | .cmpAbx abs16 => Sys2Proof.Machine.execCmpAbx abs16 s
  | .cmpAby abs16 => Sys2Proof.Machine.execCmpAby abs16 s
  | .cmpIzx zp8 => Sys2Proof.Machine.execCmpIzx zp8 s
  | .cmpIzy zp8 => Sys2Proof.Machine.execCmpIzy zp8 s
  | .cpxImm imm8 => Sys2Proof.Machine.execCpxImm imm8 s
  | .cpxZp0 zp8 => Sys2Proof.Machine.execCpxZp0 zp8 s
  | .cpxAbs abs16 => Sys2Proof.Machine.execCpxAbs abs16 s
  | .cpyImm imm8 => Sys2Proof.Machine.execCpyImm imm8 s
  | .cpyZp0 zp8 => Sys2Proof.Machine.execCpyZp0 zp8 s
  | .cpyAbs abs16 => Sys2Proof.Machine.execCpyAbs abs16 s
  -- 44_logical_bit.md
  | .andImm imm8 => Sys2Proof.Machine.execAndImm imm8 s
  | .andZp0 zp8 => Sys2Proof.Machine.execAndZp0 zp8 s
  | .andZpx zp8 => Sys2Proof.Machine.execAndZpx zp8 s
  | .andAbs abs16 => Sys2Proof.Machine.execAndAbs abs16 s
  | .andAbx abs16 => Sys2Proof.Machine.execAndAbx abs16 s
  | .andAby abs16 => Sys2Proof.Machine.execAndAby abs16 s
  | .andIzx zp8 => Sys2Proof.Machine.execAndIzx zp8 s
  | .andIzy zp8 => Sys2Proof.Machine.execAndIzy zp8 s
  | .oraImm imm8 => Sys2Proof.Machine.execOraImm imm8 s
  | .oraZp0 zp8 => Sys2Proof.Machine.execOraZp0 zp8 s
  | .oraZpx zp8 => Sys2Proof.Machine.execOraZpx zp8 s
  | .oraAbs abs16 => Sys2Proof.Machine.execOraAbs abs16 s
  | .oraAbx abs16 => Sys2Proof.Machine.execOraAbx abs16 s
  | .oraAby abs16 => Sys2Proof.Machine.execOraAby abs16 s
  | .oraIzx zp8 => Sys2Proof.Machine.execOraIzx zp8 s
  | .oraIzy zp8 => Sys2Proof.Machine.execOraIzy zp8 s
  | .eorImm imm8 => Sys2Proof.Machine.execEorImm imm8 s
  | .eorZp0 zp8 => Sys2Proof.Machine.execEorZp0 zp8 s
  | .eorZpx zp8 => Sys2Proof.Machine.execEorZpx zp8 s
  | .eorAbs abs16 => Sys2Proof.Machine.execEorAbs abs16 s
  | .eorAbx abs16 => Sys2Proof.Machine.execEorAbx abs16 s
  | .eorAby abs16 => Sys2Proof.Machine.execEorAby abs16 s
  | .eorIzx zp8 => Sys2Proof.Machine.execEorIzx zp8 s
  | .eorIzy zp8 => Sys2Proof.Machine.execEorIzy zp8 s
  | .bitZp0 zp8 => Sys2Proof.Machine.execBitZp0 zp8 s
  | .bitAbs abs16 => Sys2Proof.Machine.execBitAbs abs16 s
  -- 45_shift_rotate.md
  | .aslImp => Sys2Proof.Machine.execAslImp s
  | .aslZp0 zp8 => Sys2Proof.Machine.execAslZp0 zp8 s
  | .aslZpx zp8 => Sys2Proof.Machine.execAslZpx zp8 s
  | .aslAbs abs16 => Sys2Proof.Machine.execAslAbs abs16 s
  | .aslAbx abs16 => Sys2Proof.Machine.execAslAbx abs16 s
  | .lsrImp => Sys2Proof.Machine.execLsrImp s
  | .lsrZp0 zp8 => Sys2Proof.Machine.execLsrZp0 zp8 s
  | .lsrZpx zp8 => Sys2Proof.Machine.execLsrZpx zp8 s
  | .lsrAbs abs16 => Sys2Proof.Machine.execLsrAbs abs16 s
  | .lsrAbx abs16 => Sys2Proof.Machine.execLsrAbx abs16 s
  | .rolImp => Sys2Proof.Machine.execRolImp s
  | .rolZp0 zp8 => Sys2Proof.Machine.execRolZp0 zp8 s
  | .rolZpx zp8 => Sys2Proof.Machine.execRolZpx zp8 s
  | .rolAbs abs16 => Sys2Proof.Machine.execRolAbs abs16 s
  | .rolAbx abs16 => Sys2Proof.Machine.execRolAbx abs16 s
  | .rorImp => Sys2Proof.Machine.execRorImp s
  | .rorZp0 zp8 => Sys2Proof.Machine.execRorZp0 zp8 s
  | .rorZpx zp8 => Sys2Proof.Machine.execRorZpx zp8 s
  | .rorAbs abs16 => Sys2Proof.Machine.execRorAbs abs16 s
  | .rorAbx abs16 => Sys2Proof.Machine.execRorAbx abs16 s
  -- 46_inc_dec.md
  | .incZp0 zp8 => Sys2Proof.Machine.execIncZp0 zp8 s
  | .incZpx zp8 => Sys2Proof.Machine.execIncZpx zp8 s
  | .incAbs abs16 => Sys2Proof.Machine.execIncAbs abs16 s
  | .incAbx abs16 => Sys2Proof.Machine.execIncAbx abs16 s
  | .decZp0 zp8 => Sys2Proof.Machine.execDecZp0 zp8 s
  | .decZpx zp8 => Sys2Proof.Machine.execDecZpx zp8 s
  | .decAbs abs16 => Sys2Proof.Machine.execDecAbs abs16 s
  | .decAbx abs16 => Sys2Proof.Machine.execDecAbx abs16 s
  | .inx => Sys2Proof.Machine.execInx s
  | .dex => Sys2Proof.Machine.execDex s
  | .iny => Sys2Proof.Machine.execIny s
  | .dey => Sys2Proof.Machine.execDey s
  -- 47_control_transfer.md
  | .bcc rel8 => Sys2Proof.Machine.execBcc rel8 s
  | .bcs rel8 => Sys2Proof.Machine.execBcs rel8 s
  | .beq rel8 => Sys2Proof.Machine.execBeq rel8 s
  | .bne rel8 => Sys2Proof.Machine.execBne rel8 s
  | .bmi rel8 => Sys2Proof.Machine.execBmi rel8 s
  | .bpl rel8 => Sys2Proof.Machine.execBpl rel8 s
  | .bvc rel8 => Sys2Proof.Machine.execBvc rel8 s
  | .bvs rel8 => Sys2Proof.Machine.execBvs rel8 s
  | .jmpAbs abs16 => Sys2Proof.Machine.execJmpAbs abs16 s
  | .jmpInd ptr16 => Sys2Proof.Machine.execJmpInd ptr16 s
  | .jsr abs16 => Sys2Proof.Machine.execJsr abs16 s
  | .rts => Sys2Proof.Machine.execRts s
  -- 48_stack_flag_transfer.md
  | .pha => Sys2Proof.Machine.execPha s
  | .php => Sys2Proof.Machine.execPhp s
  | .pla => Sys2Proof.Machine.execPla s
  | .plp => Sys2Proof.Machine.execPlp s
  | .sec => Sys2Proof.Machine.execSec s
  | .clc => Sys2Proof.Machine.execClc s
  | .sed => Sys2Proof.Machine.execSed s
  | .cld => Sys2Proof.Machine.execCld s
  | .sei => Sys2Proof.Machine.execSei s
  | .cli => Sys2Proof.Machine.execCli s
  | .clv => Sys2Proof.Machine.execClv s
  | .tax => Sys2Proof.Machine.execTax s
  | .tay => Sys2Proof.Machine.execTay s
  | .txa => Sys2Proof.Machine.execTxa s
  | .tya => Sys2Proof.Machine.execTya s
  | .tsx => Sys2Proof.Machine.execTsx s
  | .txs => Sys2Proof.Machine.execTxs s
  -- 49_system.md
  | .brk => Sys2Proof.Machine.execBrk s
  | .rti => Sys2Proof.Machine.execRti s
  | .nop => Sys2Proof.Machine.execNop s
  | .unimplemented op => Sys2Proof.Machine.execUnimplemented op s

end Sys2Proof.Machine
end

