-- ==== Sys2Proof/Machine/Interrupts.lean ====
section
/-! DEFINITION. The three request events of the interrupt controller (spec/60_exceptions.md). -/

namespace Sys2Proof.Machine

/-- `Reset` (R260): every register and transient field, `PC` from 0xFFFC; memory is unchanged (R261).
Accepted in every state. -/
def doReset (s : State) : State where
  a := 0x00
  x := 0x00
  y := 0x00
  sp := resetSp
  p := resetP
  pc := s.read16 resetVector
  fetched := 0x00
  addrAbs := 0x0000
  addrRel := 0x0000
  opcode := 0x00
  cycles := resetCycles
  mem := s.mem
  resetSeen := true
  config := s.config
  inputs := s.inputs

/-- What `Irq` and `Nmi` share: B cleared and U set in the live `P` before it is pushed, I set after,
the return address is `PC`, and `cycles` counts the entry (R262, R265). -/
def acceptRequest (vector : Addr) (cycles : Nat) (s : State) : State :=
  (takeInterrupt s.pc (requestByte s.p) (setFlag (requestByte s.p) .I true) vector s).setCycles cycles

/-- `Irq` (R262); with I set it is lost and changes nothing (R263). -/
def doIrq (s : State) : State :=
  if getFlag s.p .I then s else acceptRequest irqVector irqCycles s

/-- `Nmi` (R265): unconditional, the same vector as `Irq` (R266). -/
def doNmi (s : State) : State := acceptRequest nmiVector nmiCycles s

end Sys2Proof.Machine
end

