-- ==== Sys2Proof/Machine/Clock.lean ====
section
/-! DEFINITION. The `Clock` event (spec/40_sequencer.md R110, R113) and the answer to any one event
(R122), with the refusals at the boundary of the core. -/

namespace Sys2Proof.Machine

/-- "Every call (Boundary or InFlight) ends by decrementing remaining-cycles by one" (R110). -/
def countDown (s : State) : State := s.setCycles (s.cycles - 1)

/-- The countdown that ends a boundary `Clock`. -/
def thenCountDown (r : Out) : Out :=
  match r with
  | .next s => .next (countDown s)
  | .fault f => .fault f
  | .refused w => .refused w

/-- `Clock()`: at a Boundary (`cycles = 0`) the whole instruction at `PC`, InFlight only the
countdown (R110, R113). -/
def clock (s : State) : Out :=
  match s.cycles with
  | 0 => thenCountDown (exec (fetchInstr s) s)
  | _ + 1 => .next (countDown s)

/-- `Irq` and `Nmi` are taken only at a Boundary; elsewhere they are refused (60_exceptions.md R275). -/
def request (handler : State → State) (s : State) : Out :=
  match s.cycles with
  | 0 => .next (handler s)
  | _ + 1 => .refused .requestOffBoundary

/-- Before the first `Reset` the core has no next state for the event (70_reset_and_hazards.md R291). -/
def afterReset (event : State → Out) (s : State) : Out :=
  if s.resetSeen then event s else .refused .beforeFirstReset

/-- What one event does (R122). -/
def event (e : Event) (s : State) : Out :=
  match e with
  | .clock => afterReset clock s
  | .reset => .next (doReset s)
  | .irq => afterReset (request doIrq) s
  | .nmi => afterReset (request doNmi) s
  | .hostWrite a v => .next (s.write a v)

/-- The state in which the next step fetches the instruction at `PC`: a Boundary, after a reset, with
no other input first. -/
def atBoundary (s : State) : State := ((s.setCycles 0).setResetSeen true).setInputs []

end Sys2Proof.Machine
end

