-- ==== Sys2Proof/Machine/Step.lean ====
section
/-! DEFINITION. One step: one event of the outside world, taken from the list of inputs, and a `Clock`
once the list is empty (spec/40_sequencer.md R122, assumption 4). -/

namespace Sys2Proof.Machine

/-- One step of the machine. -/
def step (s : State) : Host.Outcome State Fault Refusal :=
  match s.inputs with
  | [] => event .clock s
  | e :: rest => event e (s.setInputs rest)

/-- `s` with the instruction whose bits are `w` (`nbits` of them, every bit above 0) stored at `PC`, and
at a Boundary with no other input first, so that the next step fetches and runs it (assumption 3). -/
def State.withFetchWord (s : State) (nbits w : Nat) : State :=
  let v := w % 2 ^ nbits
  placeBytes s.pc (wordByte v 0) (wordByte v 1) (wordByte v 2) (atBoundary s)

end Sys2Proof.Machine
end

