-- ==== Sys2Proof/Machine/Disassembler.lean ====
section
/-! DEFINITION. The disassembler (spec/30_encoding.md R100 to R104): a pure function over memory, which
it reads through `MemPeek` only. A text is a list of characters (assumption 14). -/

namespace Sys2Proof.Machine

/-- What the disassembler knows of one instruction: the structured tuple R103 allows in place of the
text. `next` is the address after the instruction's bytes. -/
structure Line where
  addr : Addr
  op : Op
  mode : Mode
  o1 : Byte
  o2 : Byte
  next : Addr
  deriving DecidableEq, Repr

/-- The branch target the disassembler shows: `next +_16 sext_16(o1)` (R104). -/
def lineTarget (l : Line) : Addr := l.next + sext16 l.o1

/-- `c mod 65536` as an address (R101). -/
def cursorAddr (c : Nat) : Addr := BitVec.ofNat 16 c

/-- The entry of the instruction whose opcode byte the cursor `c` points at; operand bytes that the
mode does not take are 0 (R101). -/
def lineAt (s : State) (c : Nat) : Line :=
  let e := rom s.config (s.peek (cursorAddr c))
  let n := e.mode.operandBytes
  { addr := cursorAddr c
    op := e.op
    mode := e.mode
    o1 := if 1 ≤ n then s.peek (cursorAddr (c + 1)) else 0
    o2 := if n = 2 then s.peek (cursorAddr (c + 2)) else 0
    next := cursorAddr (c + 1 + n) }

/-- The walk of R101, whose cursor does not wrap, so that `fuel` cursor values are enough. -/
def walk (s : State) (stop : Nat) : Nat → Nat → List Line
  | 0, _ => []
  | fuel + 1, c =>
    if c ≤ stop then
      let l := lineAt s c
      l :: walk s stop fuel (c + 1 + l.mode.operandBytes)
    else []

/-- `disassemble(bus, start, end)`, both inclusive: one entry for each instruction start address, in
the order of the walk; empty when `start > end` (R100 to R102). -/
def disassemble (s : State) (start stop : Addr) : List Line :=
  walk s stop.toNat (stop.toNat + 1 - start.toNat) start.toNat

/-! ### The text (R103) -/

/-- The three letters of an operation's mnemonic, `???` for the placeholder. -/
def mnemonicText : Op → List Char
  | .lda => ['L', 'D', 'A']
  | .ldx => ['L', 'D', 'X']
  | .ldy => ['L', 'D', 'Y']
  | .sta => ['S', 'T', 'A']
  | .stx => ['S', 'T', 'X']
  | .sty => ['S', 'T', 'Y']
  | .adc => ['A', 'D', 'C']
  | .sbc => ['S', 'B', 'C']
  | .cmp => ['C', 'M', 'P']
  | .cpx => ['C', 'P', 'X']
  | .cpy => ['C', 'P', 'Y']
  | .and => ['A', 'N', 'D']
  | .ora => ['O', 'R', 'A']
  | .eor => ['E', 'O', 'R']
  | .bit => ['B', 'I', 'T']
  | .asl => ['A', 'S', 'L']
  | .lsr => ['L', 'S', 'R']
  | .rol => ['R', 'O', 'L']
  | .ror => ['R', 'O', 'R']
  | .inc => ['I', 'N', 'C']
  | .dec => ['D', 'E', 'C']
  | .inx => ['I', 'N', 'X']
  | .dex => ['D', 'E', 'X']
  | .iny => ['I', 'N', 'Y']
  | .dey => ['D', 'E', 'Y']
  | .bcc => ['B', 'C', 'C']
  | .bcs => ['B', 'C', 'S']
  | .beq => ['B', 'E', 'Q']
  | .bne => ['B', 'N', 'E']
  | .bmi => ['B', 'M', 'I']
  | .bpl => ['B', 'P', 'L']
  | .bvc => ['B', 'V', 'C']
  | .bvs => ['B', 'V', 'S']
  | .jmp => ['J', 'M', 'P']
  | .jsr => ['J', 'S', 'R']
  | .rts => ['R', 'T', 'S']
  | .pha => ['P', 'H', 'A']
  | .php => ['P', 'H', 'P']
  | .pla => ['P', 'L', 'A']
  | .plp => ['P', 'L', 'P']
  | .sec => ['S', 'E', 'C']
  | .clc => ['C', 'L', 'C']
  | .sed => ['S', 'E', 'D']
  | .cld => ['C', 'L', 'D']
  | .sei => ['S', 'E', 'I']
  | .cli => ['C', 'L', 'I']
  | .clv => ['C', 'L', 'V']
  | .tax => ['T', 'A', 'X']
  | .tay => ['T', 'A', 'Y']
  | .txa => ['T', 'X', 'A']
  | .tya => ['T', 'Y', 'A']
  | .tsx => ['T', 'S', 'X']
  | .txs => ['T', 'X', 'S']
  | .brk => ['B', 'R', 'K']
  | .rti => ['R', 'T', 'I']
  | .nop => ['N', 'O', 'P']
  | .xxx => ['?', '?', '?']

/-- The three letters of a mode's tag (R81). -/
def tagText : Mode → List Char
  | .imp => ['I', 'M', 'P']
  | .imm => ['I', 'M', 'M']
  | .zp0 => ['Z', 'P', '0']
  | .zpx => ['Z', 'P', 'X']
  | .zpy => ['Z', 'P', 'Y']
  | .abs => ['A', 'B', 'S']
  | .abx => ['A', 'B', 'X']
  | .aby => ['A', 'B', 'Y']
  | .ind => ['I', 'N', 'D']
  | .izx => ['I', 'Z', 'X']
  | .izy => ['I', 'Z', 'Y']
  | .rel => ['R', 'E', 'L']

/-- An uppercase hexadecimal digit. -/
def hexDigit (n : Nat) : Char := if n < 10 then Char.ofNat (48 + n) else Char.ofNat (55 + n)

/-- `HH`: a byte as two uppercase hexadecimal digits. -/
def hex2 (b : Byte) : List Char := [hexDigit (b.toNat / 16), hexDigit (b.toNat % 16)]

/-- `HHHH`: a `u16` as four. -/
def hex4 (a : Addr) : List Char := hex2 (hiByte a) ++ hex2 (loByte a)

/-- The mode tag in its curly braces (characters 123 and 125). -/
def bracedTag (m : Mode) : List Char := [Char.ofNat 123] ++ tagText m ++ [Char.ofNat 125]

/-- The operand part of the text, by mode, without the tag (R103). -/
def operandText (l : Line) : List Char :=
  match l.mode with
  | .imp => []
  | .imm => ['#', '$'] ++ hex2 l.o1 ++ [' ']
  | .zp0 => ['$'] ++ hex2 l.o1 ++ [' ']
  | .zpx => ['$'] ++ hex2 l.o1 ++ [',', ' ', 'X', ' ']
  | .zpy => ['$'] ++ hex2 l.o1 ++ [',', ' ', 'Y', ' ']
  | .abs => ['$'] ++ hex4 (join l.o2 l.o1) ++ [' ']
  | .abx => ['$'] ++ hex4 (join l.o2 l.o1) ++ [',', ' ', 'X', ' ']
  | .aby => ['$'] ++ hex4 (join l.o2 l.o1) ++ [',', ' ', 'Y', ' ']
  | .ind => ['(', '$'] ++ hex4 (join l.o2 l.o1) ++ [')', ' ']
  | .izx => ['(', '$'] ++ hex2 l.o1 ++ [',', ' ', 'X', ')', ' ']
  | .izy => ['(', '$'] ++ hex2 l.o1 ++ [')', ',', ' ', 'Y', ' ']
  | .rel => ['$'] ++ hex2 l.o1 ++ [' ', '[', '$'] ++ hex4 (lineTarget l) ++ [']', ' ']

/-- `Text(line, e, o1, o2, next)` (R103). -/
def lineText (l : Line) : List Char :=
  ['$'] ++ hex4 l.addr ++ [':', ' '] ++ mnemonicText l.op ++ [' '] ++ operandText l ++ bracedTag l.mode

/-- The disassembler's map from start address to text (R100, R102). -/
def disassembleText (s : State) (start stop : Addr) : List (Addr × List Char) :=
  (disassemble s start stop).map (fun l => (l.addr, lineText l))

end Sys2Proof.Machine
end

