-- ==== Sys2Proof/Machine/Bus.lean ====
section
/-! DEFINITION. The bus transactions of an event and of the disassembler, in their order (spec/20_memory.md
R52, R54, R70, R71). No read has a side effect (R62), so they are a function of the event and the state,
not state (assumption 13). -/

namespace Sys2Proof.Machine

/-- One bus transaction, by the ports of R71: `bus_addr`, the byte (`bus_wdata` or `bus_rdata`),
`bus_we`, and `bus_peek`. -/
structure Transaction where
  addr : Addr
  data : Byte
  we : Bool
  peek : Bool
  deriving DecidableEq, Repr

/-- A `MemRead`. -/
def busRead (a : Addr) (v : Byte) : Transaction := { addr := a, data := v, we := false, peek := false }

/-- A `MemWrite`. -/
def busWrite (a : Addr) (v : Byte) : Transaction := { addr := a, data := v, we := true, peek := false }

/-- A `MemPeek`, with `bus_peek` 1 (R52, R71). -/
def busPeek (a : Addr) (v : Byte) : Transaction := { addr := a, data := v, we := false, peek := true }

/-- The mode's reads of operand bytes; Immediate leaves its byte to `Fetch()` (R70; R132 of
41_addressing_modes.md). `pc` is the address after the opcode. -/
def operandReads (o : Operand) (pc : Addr) : List Transaction :=
  match o.mode, o.bytes with
  | .imm, _ => []
  | _, [b] => [busRead pc b]
  | _, [lo, hi] => [busRead pc lo, busRead (pc + 1) hi]
  | _, _ => []

/-- A read of the byte memory holds. -/
def memRead (s : State) (a : Addr) : Transaction := busRead a (s.read a)

/-- The mode's reads of pointer bytes (R54). -/
def pointerReads (o : Operand) (s : State) : List Transaction :=
  match o with
  | .indirect ptr16 => [memRead s ptr16, memRead s (indirectHighAddr s.config.indirectPageWrap ptr16)]
  | .indexedIndirectX zp8 => [memRead s (zext16 (zp8 + s.x)), memRead s (zext16 (zp8 + s.x + 1))]
  | .indirectIndexedY zp8 => [memRead s (zext16 zp8), memRead s (zext16 (zp8 + 1))]
  | .implied | .immediate _ | .zeroPage _ | .zeroPageX _ | .zeroPageY _ | .absolute _ => []
  | .absoluteX _ | .absoluteY _ | .relative _ => []

/-- The read `Fetch()` makes: none in Implied mode (R143 of 41_addressing_modes.md). -/
def fetchReads (o : Operand) (m : State) : List Transaction :=
  match o with
  | .implied => []
  | .immediate _ | .zeroPage _ | .zeroPageX _ | .zeroPageY _ | .absolute _ => [busRead m.addrAbs (operandByte o m)]
  | .absoluteX _ | .absoluteY _ | .indirect _ | .indexedIndirectX _ => [busRead m.addrAbs (operandByte o m)]
  | .indirectIndexedY _ | .relative _ => [busRead m.addrAbs (operandByte o m)]

/-- A write of the byte that memory holds after the event. -/
def memWrite (t : State) (a : Addr) : Transaction := busWrite a (t.read a)

/-- The write-back of a shift: none in Implied mode (R180 of 45_shift_rotate.md). -/
def writeBackWrites (o : Operand) (m t : State) : List Transaction :=
  match o.mode with
  | .imp => []
  | .imm | .zp0 | .zpx | .zpy | .abs | .abx | .aby | .ind | .izx | .izy | .rel => [memWrite t m.addrAbs]

/-- Three pushes and a vector read: BRK, `Irq` and `Nmi` (R71). `m` is the state before the pushes,
`t` the one after the event. -/
def interruptBus (vector : Addr) (m t : State) : List Transaction :=
  [memWrite t (stackAddr m.sp), memWrite t (stackAddr (m.sp - 1)), memWrite t (stackAddr (m.sp - 2)),
   memRead t vector, memRead t (vector + 1)]

/-- The operation's transactions, in the order of its pseudocode (R54, R70): `m` is the state after the
mode, `t` the one after the instruction. -/
def operationBus (op : Op) (o : Operand) (m t : State) : List Transaction :=
  match op with
  | .lda | .ldx | .ldy | .adc | .sbc | .cmp | .cpx | .cpy | .and | .ora | .eor | .bit => fetchReads o m
  | .asl | .lsr | .rol | .ror => fetchReads o m ++ writeBackWrites o m t
  | .inc | .dec => fetchReads o m ++ [memWrite t m.addrAbs]
  | .sta | .stx | .sty => [memWrite t m.addrAbs]
  | .pha | .php => [memWrite t (stackAddr m.sp)]
  | .pla | .plp => [memRead m (stackAddr (m.sp + 1))]
  | .jsr => [memWrite t (stackAddr m.sp), memWrite t (stackAddr (m.sp - 1))]
  | .rts => [memRead m (stackAddr (m.sp + 1)), memRead m (stackAddr (m.sp + 2))]
  | .rti =>
    [memRead m (stackAddr (m.sp + 1)), memRead m (stackAddr (m.sp + 2)), memRead m (stackAddr (m.sp + 3))]
  | .brk => interruptBus irqVector m t
  | .inx | .dex | .iny | .dey => []
  | .bcc | .bcs | .beq | .bne | .bmi | .bpl | .bvc | .bvs | .jmp => []
  | .sec | .clc | .sed | .cld | .sei | .cli | .clv => []
  | .tax | .tay | .txa | .tya | .tsx | .txs | .nop | .xxx => []

/-- The state an answer holds, or the one given where it holds none. -/
def nextOr (r : Out) (s : State) : State :=
  match r with
  | .next t => t
  | .fault _ => s
  | .refused _ => s

/-- The transactions of the boundary `Clock` of an instruction (R70). -/
def instrBus (i : Instr) (s : State) : List Transaction :=
  let s0 := startInstr i.opcode s
  [busRead s.pc i.opcode] ++ operandReads i.operand s0.pc ++ pointerReads i.operand s0 ++
    operationBus i.op i.operand (addrMode i.operand s0) (nextOr (exec i s) s)

/-- The transactions of one event, all before the event ends (R70, R71). A refused event and an InFlight
`Clock` make none (40_sequencer.md R113); the host's own write is not a transaction of the core. -/
def eventBus (e : Event) (s : State) : List Transaction :=
  match e, event e s with
  | _, .fault _ => []
  | _, .refused _ => []
  | .clock, .next _ => if s.cycles = 0 then instrBus (fetchInstr s) s else []
  | .reset, .next _ => [memRead s resetVector, memRead s (resetVector + 1)]
  | .irq, .next t => if getFlag s.p .I then [] else interruptBus irqVector s t
  | .nmi, .next t => interruptBus nmiVector s t
  | .hostWrite _ _, .next _ => []

/-! ### The disassembler -/

/-- A peek of the byte memory holds: by the disassembler, or by the host between events (R52, R72). -/
def memPeek (s : State) (a : Addr) : Transaction := busPeek a (s.peek a)

/-- The peeks behind one line: the opcode byte, then the operand bytes its mode takes, at rising
addresses modulo 65536 (30_encoding.md R101). -/
def linePeeks (s : State) (l : Line) : List Transaction :=
  (List.range (1 + l.mode.operandBytes)).map (fun k => memPeek s (l.addr + BitVec.ofNat 16 k))

/-- The transactions of `disassemble(bus, start, end)`, the arguments being the ports `dis_start` and
`dis_end`: those of each line of the walk, in its order (30_encoding.md R100, R101; R71). -/
def disassembleBus (s : State) (start stop : Addr) : List Transaction :=
  (disassemble s start stop).flatMap (linePeeks s)

/-! ### What a list of transactions does and sees -/

/-- Memory after the writes of a list of transactions. -/
def replay (s : State) : List Transaction → State
  | [] => s
  | x :: xs => if x.we then replay (s.write x.addr x.data) xs else replay s xs

/-- Every read of the list returns the byte memory holds at that moment (20_memory.md R65). -/
def readsAgree (s : State) : List Transaction → Prop
  | [] => True
  | x :: xs => if x.we then readsAgree (s.write x.addr x.data) xs else x.data = s.read x.addr ∧ readsAgree s xs

end Sys2Proof.Machine
end

