-- ==== Sys2Proof/Machine/Ports.lean ====
section
/-! DEFINITION. The port wrapper: which events one `clk` edge stands for (spec/60_exceptions.md R273,
decision D2) and the read-only outputs (spec/10_state.md R44, spec/20_memory.md R71). -/

namespace Sys2Proof.Machine

/-- The events of one `clk` edge: `reset_req` first and alone, else `nmi_req`, else `irq_req`, the
others dropped; the request comes before that edge's `Clock` (R273). -/
def edgeEvents (resetReq nmiReq irqReq : Bool) : List Event :=
  if resetReq then [.reset, .clock]
  else if nmiReq then [.nmi, .clock]
  else if irqReq then [.irq, .clock]
  else [.clock]

/-- The inputs of a run of the wrapper: the events of each edge, in order. -/
def portInputs (edges : List (Bool × Bool × Bool)) : List Event :=
  edges.flatMap (fun e => edgeEvents e.1 e.2.1 e.2.2)

/-- "Instruction complete" is the predicate `cycles = 0` (10_state.md R39, R44). -/
def insnComplete (s : State) : Bool := s.cycles == 0

/-- The inspection surface: the outputs of R44 by their port names in R71. -/
structure Inspection where
  insnComplete : Bool
  dbgA : Byte
  dbgX : Byte
  dbgY : Byte
  dbgSp : Byte
  dbgP : Byte
  dbgPc : Addr
  dbgAddrAbs : Addr
  dbgAddrRel : Addr
  dbgFetched : Byte
  dbgOpcode : Byte
  deriving DecidableEq, Repr

/-- Reading the outputs; they are a function of the state, so it has no effect on the core (R44). -/
def inspect (s : State) : Inspection :=
  { insnComplete := insnComplete s
    dbgA := s.a
    dbgX := s.x
    dbgY := s.y
    dbgSp := s.sp
    dbgP := s.p
    dbgPc := s.pc
    dbgAddrAbs := s.addrAbs
    dbgAddrRel := s.addrRel
    dbgFetched := s.fetched
    dbgOpcode := s.opcode }

end Sys2Proof.Machine
end

