-- ==== Sys2Proof/Safety.lean ====
section
/-! DEFINITION. The invariant every step keeps, and the words in which claims are stated: registers by
name, the operand an instruction uses, and the frame of an instruction. -/

namespace Sys2Proof.Machine

/-- What every state reached by the events of the spec satisfies (spec/10_state.md R29, R37, R39, R41),
with the canonical form of memory and the bound on `UNIMPL_CYCLES` (00_scope.md R7). Nothing is said of
the registers before the first `Reset` (70_reset_and_hazards.md R291). -/
structure Inv (s : State) : Prop where
  /-- memory is in its canonical form -/
  memory : Memory.wf s.mem
  /-- `UNIMPL_CYCLES` is at least 1 (R7) -/
  parameters : s.config.wf
  /-- `P.U` is 1 at every time after `Reset` (R29) -/
  unusedSet : s.resetSeen = true → getFlag s.p .U = true
  /-- `addr_rel` is 0x0000 to 0x007F or 0xFF80 to 0xFFFF (R37) -/
  offset : s.resetSeen = true → s.addrRel.toNat ≤ 0x007F ∨ 0xFF80 ≤ s.addrRel.toNat
  /-- `cycles` never exceeds the larger of 8 and `UNIMPL_CYCLES` (R39) -/
  counter : s.resetSeen = true → s.cycles ≤ max 8 s.config.unimplCycles

/-- The registers `x[r]` ranges over (00_scope.md R10). -/
inductive Reg where
  | A | X | Y | SP
  deriving DecidableEq, Repr

/-- `x[r]` (00_scope.md R10). -/
def getReg (s : State) : Reg → Byte
  | .A => s.a
  | .X => s.x
  | .Y => s.y
  | .SP => s.sp

/-- The address an instruction's mode resolves, by the function its meaning uses, in the state after
the opcode fetch (41_addressing_modes.md R130). -/
def resolved (i : Instr) (s : State) : Addr := effAddr i.operand (startInstr i.opcode s)

/-- The operand byte an instruction uses: `A` in Implied mode, the immediate byte, or the byte at the
resolved address (41_addressing_modes.md R143). -/
def operandOf (i : Instr) (s : State) : Byte :=
  match i.operand with
  | .implied => s.a
  | .immediate imm8 => imm8
  | .zeroPage _ | .zeroPageX _ | .zeroPageY _ | .absolute _ | .absoluteX _ => s.read (resolved i s)
  | .absoluteY _ | .indirect _ | .indexedIndirectX _ | .indirectIndexedY _ => s.read (resolved i s)
  | .relative _ => s.read (resolved i s)

/-- The address of the next instruction in memory (10_state.md R33). -/
def nextPc (i : Instr) (s : State) : Addr := s.pc + BitVec.ofNat 16 i.length

/-- An instruction's row: its mode, opcode byte and base cycle count (30_encoding.md R88). -/
def rowOf (i : Instr) (s : State) : Mode × Nat × Nat :=
  (i.operand.mode, i.opcode.toNat, (rom s.config i.opcode).base)

/-- `P.Z` and `P.N` of `t` are those `SetZN(v)` writes (10_state.md R30). -/
def zeroNegativeOf (v : Byte) (t : State) : Prop :=
  getFlag t.p .Z = decide (v.toNat = 0) ∧ getFlag t.p .N = v.getLsbD 7

/-- Nothing but the registers, the flags and the memory cells named differs between `s` and `t`. The
program counter, `cycles` and the transient fields have statements of their own. -/
structure FrameBut (regs : List Reg) (flags : List Flag) (cells : List Addr) (s t : State) : Prop where
  reg : ∀ r, r ∉ regs → getReg t r = getReg s r
  flag : ∀ f, f ∉ flags → getFlag t.p f = getFlag s.p f
  mem : ∀ a, a ∉ cells → t.read a = s.read a
  config : t.config = s.config
  resetSeen : t.resetSeen = s.resetSeen
  inputs : t.inputs = s.inputs

/-- The flags that decide the eight branches (47_control_transfer.md R201 to R208). -/
def branchTaken (op : Op) (p : Byte) : Option Bool :=
  match op with
  | .bcc => some (!getFlag p .C)
  | .bcs => some (getFlag p .C)
  | .beq => some (getFlag p .Z)
  | .bne => some (!getFlag p .Z)
  | .bmi => some (getFlag p .N)
  | .bpl => some (!getFlag p .N)
  | .bvc => some (!getFlag p .V)
  | .bvs => some (getFlag p .V)
  | _ => none

/-- `k` steps, stopping at the first that has no next state. -/
def runSteps : Nat → State → Out
  | 0, s => .next s
  | k + 1, s =>
    match step s with
    | .next t => runSteps k t
    | .fault f => .fault f
    | .refused w => .refused w

/-- The address of a stack pointer value as R57 of 20_memory.md writes it: `0x0100 + sp`. -/
def stackCell (sp : Byte) : Addr := 0x0100 + zext16 sp

/-- `i` runs to completion in `s` as a shift or rotate whose result is the number `result` and whose bit
shifted out is `out`: the result goes to `A` in Implied mode and to the resolved address otherwise, C, Z
and N follow, nothing else changes (45_shift_rotate.md R180). -/
def ShiftsTo (i : Instr) (s : State) (result : Nat) (out : Bool) : Prop :=
  ∃ t, exec i s = .next t ∧ getFlag t.p .C = out ∧ zeroNegativeOf (BitVec.ofNat 8 result) t ∧
    t.pc = nextPc i s ∧
    (i.operand = .implied → t.a.toNat = result ∧ FrameBut [.A] [.C, .Z, .N] [] s t) ∧
    (i.operand ≠ .implied →
      (t.read (resolved i s)).toNat = result ∧ FrameBut [] [.C, .Z, .N] [resolved i s] s t)

/-- `i` runs to completion in `s`, goes on at the next instruction and changes nothing but what is
named: for the instructions that write registers and flags only. -/
def CompletesWith (i : Instr) (s : State) (regs : List Reg) (flags : List Flag) (post : State → Prop) : Prop :=
  ∃ t, exec i s = .next t ∧ post t ∧ t.pc = nextPc i s ∧ FrameBut regs flags [] s t

/-- The instructions of the "written by" column of each flag (10_state.md R27). -/
def flagWriters : Flag → List Op
  | .C => [.adc, .sbc, .cmp, .cpx, .cpy, .asl, .lsr, .rol, .ror, .sec, .clc, .plp, .rti]
  | .Z | .N =>
    [.lda, .ldx, .ldy, .adc, .sbc, .cmp, .cpx, .cpy, .and, .ora, .eor, .bit, .asl, .lsr, .rol, .ror,
     .inc, .dec, .inx, .dex, .iny, .dey, .pla, .tax, .tay, .txa, .tya, .tsx, .plp, .rti]
  | .I => [.sei, .cli, .brk, .plp, .rti]
  | .D => [.sed, .cld, .plp, .rti]
  | .B => [.brk, .plp, .rti]
  | .U => [.plp, .rti]
  | .V => [.adc, .sbc, .bit, .clv, .plp, .rti]

/-- The instructions that write each register (10_state.md R21 to R24). ASL, LSR, ROL and ROR write `A`
in their accumulator form only, and stand in `A`'s list for that form. -/
def registerWriters : Reg → List Op
  | .A => [.lda, .pla, .txa, .tya, .adc, .sbc, .and, .ora, .eor, .asl, .lsr, .rol, .ror]
  | .X => [.ldx, .tax, .tsx, .inx, .dex]
  | .Y => [.ldy, .tay, .iny, .dey]
  | .SP => [.txs, .pha, .php, .pla, .plp, .jsr, .rts, .brk, .rti]

/-- The instructions that write memory (20_memory.md R54); the shifts in their memory forms only. -/
def memoryWriters : List Op :=
  [.sta, .stx, .sty, .inc, .dec, .asl, .lsr, .rol, .ror, .pha, .php, .jsr, .brk]

/-- What an instruction at `l`'s address decodes to is what `l` shows (30_encoding.md R100, R101). -/
def Shows (l : Line) (i : Instr) : Prop :=
  i.op = l.op ∧ i.operand.mode = l.mode ∧ i.operand.bytes = [l.o1, l.o2].take l.mode.operandBytes ∧
    l.next = l.addr + BitVec.ofNat 16 i.length

end Sys2Proof.Machine
end

