-- ==== Sys2Proof/Certificates/Slice0/Obligations.lean ====
section
/-! DEFINITION. The statements for the provers. A docstring names the rules a statement comes from, and
says where it rests on a decision of the spec's own (92_eei_decisions.md), on a passage the spec
supplies from general knowledge (93_implementation_defined.md part 2), or on a choice of the model
(notes/assumptions). -/

open Sys2Proof
open Sys2Proof.Machine

/-! ### Reset and the events -/

/-- R260, R261, R43, R290, R292: what `Reset` leaves in every state, that it is accepted in every state
(decision D24), touches no memory, and that a second one changes nothing. `P = 0x20` is decision D9 and
the cleared transient fields are decision D29. -/
def Obligations.ResetLeavesTheSpecifiedState : Prop :=
  ∀ s : State, ∃ t, event .reset s = .next t ∧
    t.a = 0x00 ∧ t.x = 0x00 ∧ t.y = 0x00 ∧ t.sp = 0xFD ∧ t.p = 0x20 ∧
    t.pc = join (s.read 0xFFFD) (s.read 0xFFFC) ∧
    t.fetched = 0x00 ∧ t.addrAbs = 0x0000 ∧ t.addrRel = 0x0000 ∧ t.opcode = 0x00 ∧ t.cycles = 8 ∧
    t.mem = s.mem ∧ t.resetSeen = true ∧ t.config = s.config ∧ t.inputs = s.inputs ∧
    event .reset t = .next t

/-- R43, R290: `State.reset` is the state after a `Reset` whose vector holds 0x8000, apart from what
`Reset` keeps (memory, the parameters, the inputs). That `State.reset` has `PC = 0x8000` is the model's
choice (assumption 2), which is the statement's premise here. -/
def Obligations.ResetStateIsTheStateAfterReset : Prop :=
  ∀ s : State, s.read 0xFFFC = 0x00 → s.read 0xFFFD = 0x80 →
    event .reset s =
      .next { State.reset with mem := s.mem, config := s.config, inputs := s.inputs }

/-- R12, R121: an event has exactly one next state, never a fault, but for the two refusals at the
boundary of the core: `Clock`, `Irq`, `Nmi` before the first `Reset` (R291, decision D15), and `Irq`, `Nmi`
away from a Boundary (R275, R300, decision D17). -/
def Obligations.EventsHaveANextStateOrAreRefused : Prop :=
  ∀ (e : Event) (s : State),
    ((e = .clock ∨ e = .irq ∨ e = .nmi) ∧ s.resetSeen = false →
      event e s = .refused .beforeFirstReset) ∧
    ((e = .irq ∨ e = .nmi) ∧ s.resetSeen = true ∧ s.cycles ≠ 0 →
      event e s = .refused .requestOffBoundary) ∧
    (¬((e = .clock ∨ e = .irq ∨ e = .nmi) ∧ s.resetSeen = false) ∧
      ¬((e = .irq ∨ e = .nmi) ∧ s.resetSeen = true ∧ s.cycles ≠ 0) → ∃ t, event e s = .next t)

/-- R122, and the model's own list of inputs (assumption 4): a step is one event, the first one listed,
or a `Clock` when none is. -/
def Obligations.StepIsTheNextInputsEvent : Prop :=
  ∀ s : State,
    (s.inputs = [] → step s = event .clock s) ∧
    (∀ e rest, s.inputs = e :: rest → step s = event e { s with inputs := rest })

/-- R110 to R113: when the bytes at `PC` decode to an instruction, a step at a Boundary is that
instruction's `exec`, followed by the countdown, and `opcode` holds the byte fetched. That the step is a
`Clock` when no input is listed is the model's choice (assumption 4). -/
def Obligations.StepRunsTheDecodedInstruction : Prop :=
  ∀ (s : State) (i : Instr) (rest : List Byte), s.resetSeen = true → s.cycles = 0 → s.inputs = [] →
    decode [s.read s.pc, s.read (s.pc + 1), s.read (s.pc + 2)] = .instr i rest →
    ∃ t, exec i s = .next t ∧ step s = .next { t with cycles := t.cycles - 1 } ∧
      t.opcode = s.read s.pc

/-- R113: an InFlight `Clock` changes nothing but `cycles` and makes no bus transaction. -/
def Obligations.InFlightClockOnlyCountsDown : Prop :=
  ∀ (s : State) (n : Nat), s.resetSeen = true → s.cycles = n + 1 →
    event .clock s = .next { s with cycles := n } ∧ eventBus .clock s = []

/-- R118: starting at a Boundary, the instruction at `PC` takes `base + extra` `Clock` events to return
to a Boundary, where the state is the one its first `Clock` left, but for `cycles`. That no input is listed,
so that every step is a `Clock`, is the premise the model's list of inputs needs (assumption 4). -/
def Obligations.InstructionsTakeTheirCycles : Prop :=
  ∀ s t : State, s.resetSeen = true → s.cycles = 0 → s.inputs = [] → s.config.wf →
    exec (fetchInstr s) s = .next t →
    1 ≤ t.cycles ∧ runSteps t.cycles s = .next { t with cycles := 0 }

/-- R29, R37, R39, R41: the invariant of Safety.lean, in a state of a `Reset` with no input listed. Two of
its clauses are the model's choice there: the canonical form of memory (assumption 1), and that `State.reset`
carries `UNIMPL_CYCLES` at its default, which is at least 1 (assumption 6). -/
def Obligations.InvariantHoldsAtReset : Prop := Inv State.reset

/-- R29, R37, R39, R41, R7: every step, whatever its event, keeps the invariant and the parameters. The
canonical form of memory, a clause of the invariant, is the model's choice (assumption 1), and so is that the
parameters are carried in the state (assumption 6). -/
def Obligations.EveryStepKeepsTheInvariant : Prop :=
  ∀ s t : State, Inv s → step s = .next t → Inv t ∧ t.config = s.config

/-! ### Memory and the stack -/

/-- R53: after `MemWrite(addr, 1, v)` location `addr` holds `v`, every other location is unchanged, and
so is everything that is not memory; no address is read-only. -/
def Obligations.WriteThenRead : Prop :=
  ∀ (s : State) (a : Addr) (v : Byte),
    (∀ b, (s.write a v).read b = if b = a then v else s.read b) ∧
    { s.write a v with mem := s.mem } = s

/-- The canonical form of memory is the model's (assumption 1): every write keeps it, and two memories
in that form that list the same byte at every address are equal. -/
def Obligations.MemoryIsCanonical : Prop :=
  (∀ (s : State) (a : Addr) (v : Byte), Memory.wf s.mem → Memory.wf (s.write a v).mem) ∧
  (∀ m n : Memory, Memory.wf m → Memory.wf n → (∀ a, lookup m a = lookup n a) → m = n)

/-- R57, R58, R59: a push stores at `0x0100 + SP` and then decrements `SP`, a pop increments `SP` and then
reads there, both modulo 256 and with no other effect; a push followed by a pop restores the value and
`SP`. -/
def Obligations.PushAndPopUseTheStackPage : Prop :=
  ∀ (v : Byte) (s : State),
    ((push v s).sp = s.sp - 1 ∧
      (∀ b, (push v s).read b = if b = stackCell s.sp then v else s.read b) ∧
      { push v s with sp := s.sp, mem := s.mem } = s) ∧
    (popState s = { s with sp := s.sp + 1 } ∧ popByte s = s.read (stackCell (s.sp + 1))) ∧
    (popByte (push v s) = v ∧ (popState (push v s)).sp = s.sp)

/-- R60: a 16-bit value is pushed high byte first and popped low byte first; with no wrap it is
little-endian in memory, the low byte at the lower address. -/
def Obligations.WordsOnTheStackAreLittleEndian : Prop :=
  ∀ (w : Addr) (s : State),
    (pushWord w s).sp = s.sp - 2 ∧
    (pushWord w s).read (stackCell s.sp) = hiByte w ∧
    (pushWord w s).read (stackCell (s.sp - 1)) = loByte w ∧
    (s.sp ≠ 0x00 → (pushWord w s).read16 (stackCell s.sp - 1) = w) ∧
    popWord (pushWord w s) = w ∧ (popWordState (pushWord w s)).sp = s.sp

/-! ### Encoding -/

/-- R90: the ten entries of the matrix that the source's scenario program confirms, each with a byte
after it that is left over, and the program's instructions with their lengths. -/
def Obligations.SampleWordsDecodeAsTheSpecSays : Prop :=
  decode [0xA2, 0x0A, 0xFF] = .instr (.ldxImm 0x0A) [0xFF] ∧
  decode [0x8E, 0x01, 0x00, 0xFF] = .instr (.stxAbs 0x0001) [0xFF] ∧
  decode [0xAC, 0x00, 0x00, 0xFF] = .instr (.ldyAbs 0x0000) [0xFF] ∧
  decode [0xA9, 0x00, 0xFF] = .instr (.ldaImm 0x00) [0xFF] ∧
  decode [0x18, 0xFF] = .instr .clc [0xFF] ∧
  decode [0x6D, 0x01, 0x00, 0xFF] = .instr (.adcAbs 0x0001) [0xFF] ∧
  decode [0x88, 0xFF] = .instr .dey [0xFF] ∧
  decode [0xD0, 0xFA, 0xFF] = .instr (.bne 0xFA) [0xFF] ∧
  decode [0x8D, 0x02, 0x00, 0xFF] = .instr (.staAbs 0x0002) [0xFF] ∧
  decode [0xEA, 0xFF] = .instr .nop [0xFF] ∧
  ([.ldxImm 0x0A, .stxAbs 0x0000, .ldxImm 0x03, .stxAbs 0x0001, .ldyAbs 0x0000, .ldaImm 0x00, .clc,
    .adcAbs 0x0001, .dey, .bne 0xFA, .staAbs 0x0002, .nop, .nop, .nop] : List Instr).map Instr.length =
    [2, 3, 2, 3, 3, 2, 1, 3, 1, 2, 3, 1, 1, 1]

/-- R80, R81, R83, R87, R88: decoding what the encoder gives for a well-formed instruction gives the
instruction back, with every operand, whatever bytes follow. The opcode matrix itself is general
knowledge (G1, assumption 9). -/
def Obligations.DecodeOfEncodeIsTheInstruction : Prop :=
  ∀ (i : Instr) (rest : List Byte), i.wf = true → decode (encode i ++ rest) = .instr i rest

/-- R80, R81, R83: a byte string that decodes is the encoding of the instruction it decodes to, which is
well formed, followed by the rest: each word has one meaning, and no bit of it is dropped. -/
def Obligations.EncodeOfDecodeIsTheBytes : Prop :=
  ∀ (bytes : List Byte) (i : Instr) (rest : List Byte), decode bytes = .instr i rest →
    i.wf = true ∧ encode i ++ rest = bytes

/-- R80, R82, R89, R111: every opcode byte with enough bytes after it decodes; exactly the 105 bytes of
R89 to the placeholder, which takes no operand byte (its length is decision D3); and the length is 1
plus the mode's operand byte count. -/
def Obligations.EveryByteIsAnOpcode : Prop :=
  unassignedOpcodes.length = 105 ∧ unassignedOpcodes.Nodup ∧
  ∀ (b : Byte) (rest : List Byte), 2 ≤ rest.length →
    ∃ i, decode (b :: rest) = .instr i (rest.drop (i.length - 1)) ∧ i.opcode = b ∧
      i.length = 1 + i.operand.mode.operandBytes ∧
      (b ∈ unassignedOpcodes ↔ i = .unimplemented b) ∧ (b ∈ unassignedOpcodes → i.length = 1)

/-! ### Addressing modes -/

/-- R131 to R136, R142: what the modes without an index carry into another page write, that they
signal no extra cycle, that the zero-page sums wrap inside zero page, and which instructions use
ZeroPageY and Relative. -/
def Obligations.SimpleModesResolve : Prop :=
  (∀ (s : State) (b : Byte) (w : Addr),
    (addrMode .implied s = { s with fetched := s.a } ∧ modeSignal .implied s = false) ∧
    (addrMode (.immediate b) s = { s with addrAbs := s.pc, pc := s.pc + 1 } ∧
      modeSignal (.immediate b) s = false) ∧
    (addrMode (.zeroPage b) s = { s with addrAbs := join 0x00 b, pc := s.pc + 1 } ∧
      modeSignal (.zeroPage b) s = false) ∧
    (addrMode (.zeroPageX b) s = { s with addrAbs := join 0x00 (b + s.x), pc := s.pc + 1 } ∧
      modeSignal (.zeroPageX b) s = false) ∧
    (addrMode (.zeroPageY b) s = { s with addrAbs := join 0x00 (b + s.y), pc := s.pc + 1 } ∧
      modeSignal (.zeroPageY b) s = false) ∧
    (addrMode (.absolute w) s = { s with addrAbs := w, pc := s.pc + 2 } ∧
      modeSignal (.absolute w) s = false) ∧
    (addrMode (.relative b) s =
        { s with addrRel := (if b.getLsbD 7 then join 0xFF b else join 0x00 b), pc := s.pc + 1 } ∧
      modeSignal (.relative b) s = false)) ∧
  (∀ i : Instr, i.operand.mode = .zpy → i.op = .ldx ∨ i.op = .stx) ∧
  (∀ i : Instr, i.operand.mode = .rel →
    i.op ∈ [Op.bcc, .bcs, .beq, .bne, .bmi, .bpl, .bvc, .bvs])

/-- R137, R138: the absolute indexed modes add the index modulo 65536, advance `PC` by two, and signal a
possible extra cycle exactly when the low byte plus the index exceeds 255, which is when the high byte
changes. -/
def Obligations.AbsoluteIndexedModesSignalAPageCross : Prop :=
  ∀ (s : State) (w : Addr),
    addrMode (.absoluteX w) s =
      { s with addrAbs := BitVec.ofNat 16 (w.toNat + s.x.toNat), pc := s.pc + 2 } ∧
    (modeSignal (.absoluteX w) s = true ↔ (loByte w).toNat + s.x.toNat > 255) ∧
    (modeSignal (.absoluteX w) s = true ↔ hiByte (addrMode (.absoluteX w) s).addrAbs ≠ hiByte w) ∧
    addrMode (.absoluteY w) s =
      { s with addrAbs := BitVec.ofNat 16 (w.toNat + s.y.toNat), pc := s.pc + 2 } ∧
    (modeSignal (.absoluteY w) s = true ↔ (loByte w).toNat + s.y.toNat > 255) ∧
    (modeSignal (.absoluteY w) s = true ↔ hiByte (addrMode (.absoluteY w) s).addrAbs ≠ hiByte w)

/-- R139, R140, R141: the pointer modes. The Indirect mode's high byte follows `INDIRECT_PAGE_WRAP`
(decision D4) and only JMP uses that mode; that the second pointer byte of IndirectIndexedY wraps inside
zero page is decision D13. -/
def Obligations.PointerModesResolve : Prop :=
  (∀ (s : State) (b : Byte) (w : Addr),
    (addrMode (.indirect w) s =
        { s with
          addrAbs :=
            (if s.config.indirectPageWrap then join (s.read (join (hiByte w) (loByte w + 1))) (s.read w)
            else join (s.read (w + 1)) (s.read w))
          pc := s.pc + 2 } ∧
      modeSignal (.indirect w) s = false) ∧
    (addrMode (.indexedIndirectX b) s =
        { s with
          addrAbs := join (s.read (join 0x00 (b + s.x + 1))) (s.read (join 0x00 (b + s.x)))
          pc := s.pc + 1 } ∧
      modeSignal (.indexedIndirectX b) s = false) ∧
    (∀ base, base = join (s.read (join 0x00 (b + 1))) (s.read (join 0x00 b)) →
      addrMode (.indirectIndexedY b) s =
        { s with addrAbs := BitVec.ofNat 16 (base.toNat + s.y.toNat), pc := s.pc + 1 } ∧
      (modeSignal (.indirectIndexedY b) s = true ↔ (loByte base).toNat + s.y.toNat > 255))) ∧
  (∀ i : Instr, i.operand.mode = .ind → i.op = .jmp)

/-- R35 to R38, R130, R144: what each instruction leaves in the transient fields. The values rest on the
minimal-write principle, decision D14. -/
def Obligations.TransientFieldsFollowTheRules : Prop :=
  ∀ (i : Instr) (s t : State), exec i s = .next t →
    t.opcode = i.opcode ∧
    t.addrAbs = (if i.operand.mode = .imp ∨ i.operand.mode = .rel then s.addrAbs else resolved i s) ∧
    (∀ b, i.operand = .relative b → t.addrRel = sext16 b) ∧
    (i.operand.mode ≠ .rel → t.addrRel = s.addrRel) ∧
    t.fetched =
      (if i.op ∈ [Op.lda, .ldx, .ldy, .adc, .sbc, .cmp, .cpx, .cpy, .and, .ora, .eor, .bit, .asl, .lsr,
          .rol, .ror, .inc, .dec] then operandOf i s
        else if i.operand.mode = .imp then s.a else s.fetched)

/-- R114 to R117: `cycles` after the boundary `Clock`, before its countdown, of an instruction that is no
branch: the base count, plus one exactly when the row is one of LDA, ADC, SBC, AND, ORA, EOR, CMP, LDX,
LDY in AbsoluteX, AbsoluteY or IndirectIndexedY and adding the index changed the page. Which operations
signal is decision D11, the base counts are general knowledge (G2, G6, assumption 9). -/
def Obligations.PageCrossCycleIsGrantedExactly : Prop :=
  ∀ (i : Instr) (s t : State), exec i s = .next t →
    i.op ∉ [Op.bcc, .bcs, .beq, .bne, .bmi, .bpl, .bvc, .bvs] →
    t.cycles = (rom s.config i.opcode).base +
      (if i.op ∈ [Op.lda, .ldx, .ldy, .adc, .sbc, .cmp, .and, .ora, .eor] ∧
          modeSignal i.operand (startInstr i.opcode s) = true then 1 else 0) ∧
    (modeSignal i.operand (startInstr i.opcode s) = true → i.operand.mode ∈ [Mode.abx, .aby, .izy])

/-! ### Loads and stores -/

/-- R150, R151, R152: the loads, in every form: the register takes the operand byte, Z and N follow it,
nothing else changes. The rows' opcode bytes and base counts are general knowledge (G1, G2). -/
def Obligations.LoadsSetTheRegisterAndZN : Prop :=
  ∀ (i : Instr) (s : State),
    (i.op = .lda → ∃ t, exec i s = .next t ∧ t.a = operandOf i s ∧ zeroNegativeOf (operandOf i s) t ∧
      t.pc = nextPc i s ∧ FrameBut [.A] [.Z, .N] [] s t ∧
      rowOf i s ∈ [(Mode.imm, 0xA9, 2), (.zp0, 0xA5, 3), (.zpx, 0xB5, 4), (.abs, 0xAD, 4),
        (.abx, 0xBD, 4), (.aby, 0xB9, 4), (.izx, 0xA1, 6), (.izy, 0xB1, 5)]) ∧
    (i.op = .ldx → ∃ t, exec i s = .next t ∧ t.x = operandOf i s ∧ zeroNegativeOf (operandOf i s) t ∧
      t.pc = nextPc i s ∧ FrameBut [.X] [.Z, .N] [] s t ∧
      rowOf i s ∈ [(Mode.imm, 0xA2, 2), (.zp0, 0xA6, 3), (.zpy, 0xB6, 4), (.abs, 0xAE, 4),
        (.aby, 0xBE, 4)]) ∧
    (i.op = .ldy → ∃ t, exec i s = .next t ∧ t.y = operandOf i s ∧ zeroNegativeOf (operandOf i s) t ∧
      t.pc = nextPc i s ∧ FrameBut [.Y] [.Z, .N] [] s t ∧
      rowOf i s ∈ [(Mode.imm, 0xA0, 2), (.zp0, 0xA4, 3), (.zpx, 0xB4, 4), (.abs, 0xAC, 4),
        (.abx, 0xBC, 4)])

/-- R153, R154, R155: the stores, in every form: the byte at the resolved address takes the register,
every other byte, every register and every flag is unchanged. Opcode bytes and base counts are general
knowledge (G1, G2). -/
def Obligations.StoresWriteOnlyTheResolvedByte : Prop :=
  ∀ (i : Instr) (s : State),
    (i.op = .sta → ∃ t, exec i s = .next t ∧ t.read (resolved i s) = s.a ∧ t.pc = nextPc i s ∧
      FrameBut [] [] [resolved i s] s t ∧
      rowOf i s ∈ [(Mode.zp0, 0x85, 3), (.zpx, 0x95, 4), (.abs, 0x8D, 4), (.abx, 0x9D, 5),
        (.aby, 0x99, 5), (.izx, 0x81, 6), (.izy, 0x91, 6)]) ∧
    (i.op = .stx → ∃ t, exec i s = .next t ∧ t.read (resolved i s) = s.x ∧ t.pc = nextPc i s ∧
      FrameBut [] [] [resolved i s] s t ∧
      rowOf i s ∈ [(Mode.zp0, 0x86, 3), (.zpy, 0x96, 4), (.abs, 0x8E, 4)]) ∧
    (i.op = .sty → ∃ t, exec i s = .next t ∧ t.read (resolved i s) = s.y ∧ t.pc = nextPc i s ∧
      FrameBut [] [] [resolved i s] s t ∧
      rowOf i s ∈ [(Mode.zp0, 0x84, 3), (.zpx, 0x94, 4), (.abs, 0x8C, 4)])

/-! ### Arithmetic and compare -/

/-- R160: `AddCore(m)`, as the rule gives it: `temp` in unbounded integers, C, Z, V, N and `A` from it,
nothing else. -/
def Obligations.AddCoreFollowsTheFormula : Prop :=
  ∀ (m : Byte) (s : State),
    let temp := s.a.toNat + m.toNat + (if getFlag s.p .C then 1 else 0)
    (addCore m s).a = BitVec.ofNat 8 temp ∧
    getFlag (addCore m s).p .C = decide (temp > 255) ∧
    getFlag (addCore m s).p .Z = decide (temp % 256 = 0) ∧
    getFlag (addCore m s).p .V = ((!(s.a.getLsbD 7 ^^ m.getLsbD 7)) && (s.a.getLsbD 7 ^^ temp.testBit 7)) ∧
    getFlag (addCore m s).p .N = temp.testBit 7 ∧
    (∀ f, f ∉ [Flag.C, .Z, .V, .N] → getFlag (addCore m s).p f = getFlag s.p f) ∧
    { addCore m s with a := s.a, p := s.p } = s

/-- R161, R162, R160, R28: ADC and SBC, in every form: `A` is the sum with carry, or the difference with
borrow, modulo 256, in binary whatever D is; C is the carry out, or no borrow; Z and N follow the result;
nothing else changes. Opcode bytes and base counts are general knowledge (G1, G2). -/
def Obligations.AdcAndSbcResults : Prop :=
  ∀ (i : Instr) (s : State),
    let c := if getFlag s.p .C then 1 else 0
    (i.op = .adc → ∃ t, exec i s = .next t ∧
      t.a.toNat = (s.a.toNat + (operandOf i s).toNat + c) % 256 ∧
      getFlag t.p .C = decide (255 < s.a.toNat + (operandOf i s).toNat + c) ∧ zeroNegativeOf t.a t ∧
      t.pc = nextPc i s ∧ FrameBut [.A] [.C, .Z, .V, .N] [] s t ∧
      rowOf i s ∈ [(Mode.imm, 0x69, 2), (.zp0, 0x65, 3), (.zpx, 0x75, 4), (.abs, 0x6D, 4),
        (.abx, 0x7D, 4), (.aby, 0x79, 4), (.izx, 0x61, 6), (.izy, 0x71, 5)]) ∧
    (i.op = .sbc → ∃ t, exec i s = .next t ∧
      (t.a.toNat : Int) = ((s.a.toNat : Int) - (operandOf i s).toNat - (1 - c)) % 256 ∧
      getFlag t.p .C = decide ((operandOf i s).toNat < s.a.toNat + c) ∧ zeroNegativeOf t.a t ∧
      t.pc = nextPc i s ∧ FrameBut [.A] [.C, .Z, .V, .N] [] s t ∧
      rowOf i s ∈ [(Mode.imm, 0xE9, 2), (.zp0, 0xE5, 3), (.zpx, 0xF5, 4), (.abs, 0xED, 4),
        (.abx, 0xFD, 4), (.aby, 0xF9, 4), (.izx, 0xE1, 6), (.izy, 0xF1, 5)])

/-- R166 (b): V after ADC and SBC says that the true signed sum or difference does not fit in -128 to
127. -/
def Obligations.OverflowIsTheSignedOutcome : Prop :=
  ∀ (i : Instr) (s t : State), exec i s = .next t →
    let c : Int := if getFlag s.p .C then 1 else 0
    let sum := s.a.toInt + (operandOf i s).toInt + c
    let diff := s.a.toInt - (operandOf i s).toInt - (1 - c)
    (i.op = .adc → getFlag t.p .V = decide (sum < -128 ∨ 127 < sum)) ∧
    (i.op = .sbc → getFlag t.p .V = decide (diff < -128 ∨ 127 < diff))

/-- R162: ADC with carry 0, followed by SBC of the same operand with carry 1, restores `A`, in every pair
of forms. -/
def Obligations.AdcThenSbcRestoresA : Prop :=
  ∀ (i j : Instr) (s t u : State), i.op = .adc → j.op = .sbc → getFlag s.p .C = false →
    exec i s = .next t →
    operandOf j { t with p := setFlag t.p .C true } = operandOf i s →
    exec j { t with p := setFlag t.p .C true } = .next u → u.a = s.a

/-- R163, R164, R165: the compares, in every form: C when the register is at least the operand, Z when
they are equal, N bit 7 of the 8-bit difference; the result is not stored and nothing else changes, V
among it. Opcode bytes and base counts are general knowledge (G1, G2). -/
def Obligations.ComparesSetCarryZeroNegative : Prop :=
  ∀ (i : Instr) (s : State),
    let m := operandOf i s
    (i.op = .cmp → ∃ t, exec i s = .next t ∧ getFlag t.p .C = decide (m.toNat ≤ s.a.toNat) ∧
      getFlag t.p .Z = decide (s.a = m) ∧ getFlag t.p .N = (s.a - m).getLsbD 7 ∧
      t.pc = nextPc i s ∧ FrameBut [] [.C, .Z, .N] [] s t ∧
      rowOf i s ∈ [(Mode.imm, 0xC9, 2), (.zp0, 0xC5, 3), (.zpx, 0xD5, 4), (.abs, 0xCD, 4),
        (.abx, 0xDD, 4), (.aby, 0xD9, 4), (.izx, 0xC1, 6), (.izy, 0xD1, 5)]) ∧
    (i.op = .cpx → ∃ t, exec i s = .next t ∧ getFlag t.p .C = decide (m.toNat ≤ s.x.toNat) ∧
      getFlag t.p .Z = decide (s.x = m) ∧ getFlag t.p .N = (s.x - m).getLsbD 7 ∧
      t.pc = nextPc i s ∧ FrameBut [] [.C, .Z, .N] [] s t ∧
      rowOf i s ∈ [(Mode.imm, 0xE0, 2), (.zp0, 0xE4, 3), (.abs, 0xEC, 4)]) ∧
    (i.op = .cpy → ∃ t, exec i s = .next t ∧ getFlag t.p .C = decide (m.toNat ≤ s.y.toNat) ∧
      getFlag t.p .Z = decide (s.y = m) ∧ getFlag t.p .N = (s.y - m).getLsbD 7 ∧
      t.pc = nextPc i s ∧ FrameBut [] [.C, .Z, .N] [] s t ∧
      rowOf i s ∈ [(Mode.imm, 0xC0, 2), (.zp0, 0xC4, 3), (.abs, 0xCC, 4)])

/-! ### Logical operations, shifts, increments -/

/-- R170, R171, R172: AND, ORA and EOR, in every form. Opcode bytes and base counts are general knowledge
(G1, G2). -/
def Obligations.LogicalResults : Prop :=
  ∀ (i : Instr) (s : State),
    (i.op = .and → ∃ t, exec i s = .next t ∧ t.a = s.a &&& operandOf i s ∧ zeroNegativeOf t.a t ∧
      t.pc = nextPc i s ∧ FrameBut [.A] [.Z, .N] [] s t ∧
      rowOf i s ∈ [(Mode.imm, 0x29, 2), (.zp0, 0x25, 3), (.zpx, 0x35, 4), (.abs, 0x2D, 4),
        (.abx, 0x3D, 4), (.aby, 0x39, 4), (.izx, 0x21, 6), (.izy, 0x31, 5)]) ∧
    (i.op = .ora → ∃ t, exec i s = .next t ∧ t.a = s.a ||| operandOf i s ∧ zeroNegativeOf t.a t ∧
      t.pc = nextPc i s ∧ FrameBut [.A] [.Z, .N] [] s t ∧
      rowOf i s ∈ [(Mode.imm, 0x09, 2), (.zp0, 0x05, 3), (.zpx, 0x15, 4), (.abs, 0x0D, 4),
        (.abx, 0x1D, 4), (.aby, 0x19, 4), (.izx, 0x01, 6), (.izy, 0x11, 5)]) ∧
    (i.op = .eor → ∃ t, exec i s = .next t ∧ t.a = s.a ^^^ operandOf i s ∧ zeroNegativeOf t.a t ∧
      t.pc = nextPc i s ∧ FrameBut [.A] [.Z, .N] [] s t ∧
      rowOf i s ∈ [(Mode.imm, 0x49, 2), (.zp0, 0x45, 3), (.zpx, 0x55, 4), (.abs, 0x4D, 4),
        (.abx, 0x5D, 4), (.aby, 0x59, 4), (.izx, 0x41, 6), (.izy, 0x51, 5)])

/-- R173: BIT, in both forms: Z from `A & m`, N and V from bits 7 and 6 of the operand, `A` unchanged. All
of the rule is general knowledge (G3). -/
def Obligations.BitTestsTheOperand : Prop :=
  ∀ (i : Instr) (s : State), i.op = .bit →
    ∃ t, exec i s = .next t ∧ getFlag t.p .Z = decide (s.a &&& operandOf i s = 0x00) ∧
      getFlag t.p .N = (operandOf i s).getLsbD 7 ∧ getFlag t.p .V = (operandOf i s).getLsbD 6 ∧
      t.pc = nextPc i s ∧ FrameBut [] [.Z, .V, .N] [] s t ∧
      rowOf i s ∈ [(Mode.zp0, 0x24, 3), (.abs, 0x2C, 4)]

/-- R180 to R184: the shifts and rotates, in every form: the result and the bit shifted out as numbers,
the result to `A` in Implied mode and to the resolved address otherwise, nothing else. The carry-in of
ROL and ROR is general knowledge (G7, decision D19), opcode bytes and base counts too (G1, G2). -/
def Obligations.ShiftsAndRotates : Prop :=
  ∀ (i : Instr) (s : State),
    let m := (operandOf i s).toNat
    let c := if getFlag s.p .C then 1 else 0
    (i.op = .asl → ShiftsTo i s (2 * m % 256) (decide (128 ≤ m)) ∧
      rowOf i s ∈ [(Mode.imp, 0x0A, 2), (.zp0, 0x06, 5), (.zpx, 0x16, 6), (.abs, 0x0E, 6),
        (.abx, 0x1E, 7)]) ∧
    (i.op = .lsr → ShiftsTo i s (m / 2) (decide (m % 2 = 1)) ∧
      rowOf i s ∈ [(Mode.imp, 0x4A, 2), (.zp0, 0x46, 5), (.zpx, 0x56, 6), (.abs, 0x4E, 6),
        (.abx, 0x5E, 7)]) ∧
    (i.op = .rol → ShiftsTo i s ((2 * m + c) % 256) (decide (128 ≤ m)) ∧
      rowOf i s ∈ [(Mode.imp, 0x2A, 2), (.zp0, 0x26, 5), (.zpx, 0x36, 6), (.abs, 0x2E, 6),
        (.abx, 0x3E, 7)]) ∧
    (i.op = .ror → ShiftsTo i s (128 * c + m / 2) (decide (m % 2 = 1)) ∧
      rowOf i s ∈ [(Mode.imp, 0x6A, 2), (.zp0, 0x66, 5), (.zpx, 0x76, 6), (.abs, 0x6E, 6),
        (.abx, 0x7E, 7)])

/-- R190, R191: INC and DEC, in every form: the byte at the resolved address plus or minus 1 modulo 256,
Z and N from it, nothing else changes. Opcode bytes and base counts are general knowledge (G1, G2). -/
def Obligations.IncAndDecChangeMemoryByOne : Prop :=
  ∀ (i : Instr) (s : State),
    let m := (operandOf i s).toNat
    (i.op = .inc → ∃ t, exec i s = .next t ∧ (t.read (resolved i s)).toNat = (m + 1) % 256 ∧
      zeroNegativeOf (t.read (resolved i s)) t ∧ t.pc = nextPc i s ∧
      FrameBut [] [.Z, .N] [resolved i s] s t ∧
      rowOf i s ∈ [(Mode.zp0, 0xE6, 5), (.zpx, 0xF6, 6), (.abs, 0xEE, 6), (.abx, 0xFE, 7)]) ∧
    (i.op = .dec → ∃ t, exec i s = .next t ∧ (t.read (resolved i s)).toNat = (m + 255) % 256 ∧
      zeroNegativeOf (t.read (resolved i s)) t ∧ t.pc = nextPc i s ∧
      FrameBut [] [.Z, .N] [resolved i s] s t ∧
      rowOf i s ∈ [(Mode.zp0, 0xC6, 5), (.zpx, 0xD6, 6), (.abs, 0xCE, 6), (.abx, 0xDE, 7)])

/-- R192 to R195: INX, DEX, INY, DEY: the register plus or minus 1 modulo 256, Z and N from it, nothing
else changes. Opcode bytes and base counts are general knowledge (G1, G2). -/
def Obligations.IncAndDecChangeARegisterByOne : Prop :=
  ∀ s : State,
    (CompletesWith .inx s [.X] [.Z, .N] (fun t => t.x.toNat = (s.x.toNat + 1) % 256 ∧ zeroNegativeOf t.x t) ∧
      rowOf .inx s = (Mode.imp, 0xE8, 2)) ∧
    (CompletesWith .dex s [.X] [.Z, .N] (fun t => t.x.toNat = (s.x.toNat + 255) % 256 ∧ zeroNegativeOf t.x t) ∧
      rowOf .dex s = (Mode.imp, 0xCA, 2)) ∧
    (CompletesWith .iny s [.Y] [.Z, .N] (fun t => t.y.toNat = (s.y.toNat + 1) % 256 ∧ zeroNegativeOf t.y t) ∧
      rowOf .iny s = (Mode.imp, 0xC8, 2)) ∧
    (CompletesWith .dey s [.Y] [.Z, .N] (fun t => t.y.toNat = (s.y.toNat + 255) % 256 ∧ zeroNegativeOf t.y t) ∧
      rowOf .dey s = (Mode.imp, 0x88, 2))

/-! ### Control transfer -/

/-- R200 to R208, R117: the eight branches: the flag each tests (general knowledge but for BNE, decision
D27), where `PC` goes, and the cycles: base, 1 more when taken, 1 more when the target's page differs from
that of the next instruction (decision D12). No flag, register or memory changes. -/
def Obligations.BranchesGoToTheirTarget : Prop :=
  ∀ (i : Instr) (s : State), i.op ∈ [Op.bcc, .bcs, .beq, .bne, .bmi, .bpl, .bvc, .bvs] →
    ∃ (offset : Byte) (taken : Bool) (t : State),
      i.operand = .relative offset ∧ branchTaken i.op s.p = some taken ∧ exec i s = .next t ∧
      t.pc = (if taken then s.pc + 2 + sext16 offset else s.pc + 2) ∧
      t.cycles = 2 + (if taken then 1 else 0) +
        (if taken ∧ hiByte (s.pc + 2 + sext16 offset) ≠ hiByte (s.pc + 2) then 1 else 0) ∧
      FrameBut [] [] [] s t ∧
      (i.op, rowOf i s) ∈ [(Op.bcc, Mode.rel, 0x90, 2), (.bcs, .rel, 0xB0, 2), (.beq, .rel, 0xF0, 2),
        (.bne, .rel, 0xD0, 2), (.bmi, .rel, 0x30, 2), (.bpl, .rel, 0x10, 2), (.bvc, .rel, 0x50, 2),
        (.bvs, .rel, 0x70, 2)]

/-- R209: JMP in its two forms: `PC` is the resolved address, nothing else changes. Opcode bytes and base
counts are general knowledge (G1, G2). -/
def Obligations.JmpGoesToTheResolvedAddress : Prop :=
  ∀ (i : Instr) (s : State), i.op = .jmp →
    ∃ t, exec i s = .next t ∧ t.pc = resolved i s ∧ FrameBut [] [] [] s t ∧
      (∀ w, i.operand = .absolute w → t.pc = w) ∧
      rowOf i s ∈ [(Mode.abs, 0x4C, 3), (.ind, 0x6C, 5)]

/-- R210: JSR pushes its own address plus 2, high byte first, and goes to its operand, whatever the stack
pointer and wherever the pushes land. The opcode byte and base count are general knowledge (G1, G2). -/
def Obligations.JsrPushesTheReturnAddress : Prop :=
  ∀ (target : Addr) (s : State), ∃ t, exec (.jsr target) s = .next t ∧ t.pc = target ∧
    t.sp = s.sp - 2 ∧
    t.read (stackCell s.sp) = hiByte (s.pc + 2) ∧ t.read (stackCell (s.sp - 1)) = loByte (s.pc + 2) ∧
    FrameBut [.SP] [] [stackCell s.sp, stackCell (s.sp - 1)] s t ∧
    rowOf (.jsr target) s = (Mode.abs, 0x20, 6)

/-- R211: RTS pops the low byte, then the high byte, and goes to the word plus 1. The opcode byte and base
count are general knowledge (G1, G2). -/
def Obligations.RtsPopsTheReturnAddress : Prop :=
  ∀ s : State, ∃ t, exec .rts s = .next t ∧
    t.pc = join (s.read (stackCell (s.sp + 2))) (s.read (stackCell (s.sp + 1))) + 1 ∧
    t.sp = s.sp + 2 ∧ FrameBut [.SP] [] [] s t ∧ rowOf .rts s = (Mode.imp, 0x60, 6)

/-- R210, R211: an RTS that finds the stack pointer and the two stack bytes as a JSR left them goes to the
instruction after the JSR and restores the stack pointer. -/
def Obligations.RtsReturnsBehindTheJsr : Prop :=
  ∀ (target : Addr) (s t u v : State), exec (.jsr target) s = .next t →
    u.sp = t.sp → u.read (stackCell s.sp) = t.read (stackCell s.sp) →
    u.read (stackCell (s.sp - 1)) = t.read (stackCell (s.sp - 1)) →
    exec .rts u = .next v → v.pc = s.pc + 3 ∧ v.sp = s.sp

/-! ### Stack, flag and transfer instructions -/

/-- R220, R221: PHA pushes `A`, PHP pushes `P | 0x30` and leaves the live `P` alone. Opcode bytes and base
counts are general knowledge (G1, G2). -/
def Obligations.PhaAndPhpPushOneByte : Prop :=
  ∀ s : State,
    (∃ t, exec .pha s = .next t ∧ t.read (stackCell s.sp) = s.a ∧ t.sp = s.sp - 1 ∧
      t.pc = s.pc + 1 ∧ FrameBut [.SP] [] [stackCell s.sp] s t ∧ rowOf .pha s = (Mode.imp, 0x48, 3)) ∧
    (∃ t, exec .php s = .next t ∧ t.read (stackCell s.sp) = s.p ||| 0x30 ∧ t.sp = s.sp - 1 ∧
      t.p = s.p ∧ t.pc = s.pc + 1 ∧ FrameBut [.SP] [] [stackCell s.sp] s t ∧
      rowOf .php s = (Mode.imp, 0x08, 3))

/-- R222, R223: PLA pops `A` and sets Z and N, PLP pops `P` with U forced to 1 and B as popped (decision
D23). Opcode bytes and base counts are general knowledge (G1, G2). -/
def Obligations.PlaAndPlpPullOneByte : Prop :=
  ∀ s : State,
    (∃ t, exec .pla s = .next t ∧ t.a = s.read (stackCell (s.sp + 1)) ∧ t.sp = s.sp + 1 ∧
      zeroNegativeOf t.a t ∧ t.pc = s.pc + 1 ∧ FrameBut [.A, .SP] [.Z, .N] [] s t ∧
      rowOf .pla s = (Mode.imp, 0x68, 4)) ∧
    (∃ t, exec .plp s = .next t ∧ t.p = s.read (stackCell (s.sp + 1)) ||| 0x20 ∧ t.sp = s.sp + 1 ∧
      t.pc = s.pc + 1 ∧ FrameBut [.SP] [.C, .Z, .I, .D, .B, .U, .V, .N] [] s t ∧
      rowOf .plp s = (Mode.imp, 0x28, 4))

/-- R220 to R223, R29: a PLA that finds the stack as a PHA left it restores `A` and `SP`; a PLP after a PHP
restores every flag but B and U, which it sets, and `SP`. -/
def Obligations.PullsUndoPushes : Prop :=
  ∀ s t u v : State, u.sp = t.sp → u.read (stackCell s.sp) = t.read (stackCell s.sp) →
    (exec .pha s = .next t → exec .pla u = .next v → v.a = s.a ∧ v.sp = s.sp) ∧
    (exec .php s = .next t → exec .plp u = .next v → v.p = s.p ||| 0x30 ∧ v.sp = s.sp)

/-- R224 to R230: the flag instructions set or clear the one flag they name, nothing else. Opcode bytes and
base counts are general knowledge (G1, G2; 0x18 is confirmed, R90). -/
def Obligations.FlagInstructionsWriteOneFlag : Prop :=
  ∀ s : State,
    (CompletesWith .sec s [] [.C] (fun t => getFlag t.p .C = true) ∧ rowOf .sec s = (Mode.imp, 0x38, 2)) ∧
    (CompletesWith .clc s [] [.C] (fun t => getFlag t.p .C = false) ∧ rowOf .clc s = (Mode.imp, 0x18, 2)) ∧
    (CompletesWith .sed s [] [.D] (fun t => getFlag t.p .D = true) ∧ rowOf .sed s = (Mode.imp, 0xF8, 2)) ∧
    (CompletesWith .cld s [] [.D] (fun t => getFlag t.p .D = false) ∧ rowOf .cld s = (Mode.imp, 0xD8, 2)) ∧
    (CompletesWith .sei s [] [.I] (fun t => getFlag t.p .I = true) ∧ rowOf .sei s = (Mode.imp, 0x78, 2)) ∧
    (CompletesWith .cli s [] [.I] (fun t => getFlag t.p .I = false) ∧ rowOf .cli s = (Mode.imp, 0x58, 2)) ∧
    (CompletesWith .clv s [] [.V] (fun t => getFlag t.p .V = false) ∧ rowOf .clv s = (Mode.imp, 0xB8, 2))

/-- R231 to R236: the transfers copy one register into another; all but TXS set Z and N from it. Opcode
bytes and base counts are general knowledge (G1, G2). -/
def Obligations.TransfersCopyOneRegister : Prop :=
  ∀ s : State,
    (CompletesWith .tax s [.X] [.Z, .N] (fun t => t.x = s.a ∧ zeroNegativeOf s.a t) ∧
      rowOf .tax s = (Mode.imp, 0xAA, 2)) ∧
    (CompletesWith .tay s [.Y] [.Z, .N] (fun t => t.y = s.a ∧ zeroNegativeOf s.a t) ∧
      rowOf .tay s = (Mode.imp, 0xA8, 2)) ∧
    (CompletesWith .txa s [.A] [.Z, .N] (fun t => t.a = s.x ∧ zeroNegativeOf s.x t) ∧
      rowOf .txa s = (Mode.imp, 0x8A, 2)) ∧
    (CompletesWith .tya s [.A] [.Z, .N] (fun t => t.a = s.y ∧ zeroNegativeOf s.y t) ∧
      rowOf .tya s = (Mode.imp, 0x98, 2)) ∧
    (CompletesWith .tsx s [.X] [.Z, .N] (fun t => t.x = s.sp ∧ zeroNegativeOf s.sp t) ∧
      rowOf .tsx s = (Mode.imp, 0xBA, 2)) ∧
    (CompletesWith .txs s [.SP] [] (fun t => t.sp = s.x) ∧ rowOf .txs s = (Mode.imp, 0x9A, 2))

/-! ### System instructions and interrupts -/

/-- R252, R253, R89: NOP and every placeholder write no register, no flag and no memory, and go on at the
next byte; a placeholder's base count is `UNIMPL_CYCLES`. That the placeholder is one byte long is decision
D3. -/
def Obligations.NopAndPlaceholdersHaveNoEffect : Prop :=
  ∀ s : State,
    (CompletesWith .nop s [] [] (fun t => t.p = s.p ∧ t.mem = s.mem ∧ t.cycles = 2) ∧
      rowOf .nop s = (Mode.imp, 0xEA, 2)) ∧
    (∀ b ∈ unassignedOpcodes,
      CompletesWith (.unimplemented b) s [] []
        (fun t => t.p = s.p ∧ t.mem = s.mem ∧ t.cycles = s.config.unimplCycles ∧ t.pc = s.pc + 1))

/-- R250, R267: BRK: the word pushed is its address plus 2, the status pushed has I and B set, the live `P`
ends with I set and B clear, `PC` is the word at 0xFFFE, whatever I was. That the signature byte is not
read and I is ignored is decision D25; the opcode byte and base count are general knowledge (G1, G2). -/
def Obligations.BrkEntersTheHandler : Prop :=
  ∀ s : State, ∃ t, exec .brk s = .next t ∧
    t.pc = join (s.read 0xFFFF) (s.read 0xFFFE) ∧ t.sp = s.sp - 3 ∧
    t.read (stackCell s.sp) = hiByte (s.pc + 2) ∧ t.read (stackCell (s.sp - 1)) = loByte (s.pc + 2) ∧
    t.read (stackCell (s.sp - 2)) = s.p ||| 0x14 ∧
    getFlag t.p .I = true ∧ getFlag t.p .B = false ∧
    FrameBut [.SP] [.I, .B] [stackCell s.sp, stackCell (s.sp - 1), stackCell (s.sp - 2)] s t ∧
    rowOf .brk s = (Mode.imp, 0x00, 7)

/-- R262, R266, R267: an accepted `Irq`: the word pushed is `PC`, the status pushed has B clear and U set, I
is set afterwards, `PC` is the word at 0xFFFE, 7 cycles. That the live B and U are written is decision D10,
that the transient fields are not is decision D14. -/
def Obligations.IrqEntersTheHandler : Prop :=
  ∀ s : State, s.resetSeen = true → s.cycles = 0 → getFlag s.p .I = false →
    ∃ t, event .irq s = .next t ∧
      t.pc = join (s.read 0xFFFF) (s.read 0xFFFE) ∧ t.sp = s.sp - 3 ∧ t.cycles = 7 ∧
      t.read (stackCell s.sp) = hiByte s.pc ∧ t.read (stackCell (s.sp - 1)) = loByte s.pc ∧
      t.read (stackCell (s.sp - 2)) = (s.p &&& 0xEF) ||| 0x20 ∧
      getFlag t.p .I = true ∧ getFlag t.p .B = false ∧ getFlag t.p .U = true ∧
      FrameBut [.SP] [.I, .B, .U] [stackCell s.sp, stackCell (s.sp - 1), stackCell (s.sp - 2)] s t ∧
      t.fetched = s.fetched ∧ t.addrAbs = s.addrAbs ∧ t.addrRel = s.addrRel ∧ t.opcode = s.opcode

/-- R263: with I set, `Irq` changes nothing at all and makes no bus transaction: the request is lost. -/
def Obligations.MaskedIrqIsLost : Prop :=
  ∀ s : State, s.resetSeen = true → s.cycles = 0 → getFlag s.p .I = true →
    event .irq s = .next s ∧ eventBus .irq s = []

/-- R265, R266, R267: `Nmi` is taken whatever I is, with the vector of `Irq`; the status pushed carries I as
it was; 8 cycles. That the live B and U are written is decision D10, that the transient fields are not is
decision D14. -/
def Obligations.NmiEntersTheHandler : Prop :=
  ∀ s : State, s.resetSeen = true → s.cycles = 0 →
    ∃ t, event .nmi s = .next t ∧
      t.pc = join (s.read 0xFFFF) (s.read 0xFFFE) ∧ t.sp = s.sp - 3 ∧ t.cycles = 8 ∧
      t.read (stackCell s.sp) = hiByte s.pc ∧ t.read (stackCell (s.sp - 1)) = loByte s.pc ∧
      t.read (stackCell (s.sp - 2)) = (s.p &&& 0xEF) ||| 0x20 ∧
      getFlag t.p .I = true ∧ getFlag t.p .B = false ∧ getFlag t.p .U = true ∧
      FrameBut [.SP] [.I, .B, .U] [stackCell s.sp, stackCell (s.sp - 1), stackCell (s.sp - 2)] s t ∧
      t.fetched = s.fetched ∧ t.addrAbs = s.addrAbs ∧ t.addrRel = s.addrRel ∧ t.opcode = s.opcode

/-- R251: RTI pops the status, with B cleared and U forced to 1, then the low and the high byte of `PC`,
with no increment. All of the rule is general knowledge (G4, decision D8). -/
def Obligations.RtiPopsStatusAndPc : Prop :=
  ∀ s : State, ∃ t, exec .rti s = .next t ∧
    t.p = (s.read (stackCell (s.sp + 1)) &&& 0xEF) ||| 0x20 ∧
    t.pc = join (s.read (stackCell (s.sp + 3))) (s.read (stackCell (s.sp + 2))) ∧
    t.sp = s.sp + 3 ∧ FrameBut [.SP] [.C, .Z, .I, .D, .B, .U, .V, .N] [] s t ∧
    rowOf .rti s = (Mode.imp, 0x40, 6)

/-- R269, R250 (a), (b): an RTI that finds the stack as an entry left it goes back to where the entry came
from: after `Irq` and `Nmi` to the very next instruction with the interrupted status, after BRK behind the
signature byte with I set, whatever I was. RTI is general knowledge (G4, decision D8). -/
def Obligations.RtiReturnsToTheInterruptedProgram : Prop :=
  ∀ s t u v : State, u.sp = t.sp →
    (∀ a ∈ [stackCell s.sp, stackCell (s.sp - 1), stackCell (s.sp - 2)], u.read a = t.read a) →
    exec .rti u = .next v →
    (event .irq s = .next t → getFlag s.p .I = false →
      v.pc = s.pc ∧ v.sp = s.sp ∧ v.p = (s.p &&& 0xEF) ||| 0x20) ∧
    (event .nmi s = .next t → v.pc = s.pc ∧ v.sp = s.sp ∧ v.p = (s.p &&& 0xEF) ||| 0x20) ∧
    (exec .brk s = .next t →
      v.pc = s.pc + 2 ∧ v.sp = s.sp ∧ v.p = ((s.p ||| 0x04) &&& 0xEF) ||| 0x20)

/-- R273 (decision D2): at one clock edge of the port wrapper `reset_req` is served first and alone, else
`nmi_req`, else `irq_req`, before that edge's `Clock`; the others are dropped. -/
def Obligations.PortRequestsHaveAPriority : Prop :=
  ∀ (s t : State) (resetReq nmiReq irqReq : Bool), s.inputs = portInputs [(resetReq, nmiReq, irqReq)] →
    (resetReq = true → event .reset { s with inputs := [.clock] } = .next t →
      runSteps 2 s = event .clock { t with inputs := [] }) ∧
    (resetReq = false ∧ nmiReq = true → event .nmi { s with inputs := [.clock] } = .next t →
      runSteps 2 s = event .clock { t with inputs := [] }) ∧
    (resetReq = false ∧ nmiReq = false ∧ irqReq = true →
      event .irq { s with inputs := [.clock] } = .next t →
      runSteps 2 s = event .clock { t with inputs := [] }) ∧
    (resetReq = false ∧ nmiReq = false ∧ irqReq = false →
      runSteps 1 s = event .clock { s with inputs := [] })

/-! ### Rules over all instructions -/

/-- R27, R29: a flag changes only by an instruction of its "written by" column, or by a request that names
it; every instruction and every event, the requests among them, leaves U set once it is. That `Irq` and `Nmi`
write the live B and U is decision D10. -/
def Obligations.FlagsAreWrittenOnlyByTheirInstructions : Prop :=
  ∀ s t : State,
    (∀ (i : Instr) (f : Flag), exec i s = .next t → i.op ∉ flagWriters f →
      getFlag t.p f = getFlag s.p f) ∧
    (∀ (e : Event) (f : Flag), event e s = .next t → e = .irq ∨ e = .nmi → f ∉ [Flag.I, .B, .U] →
      getFlag t.p f = getFlag s.p f) ∧
    (∀ (a : Addr) (b : Byte), event (.hostWrite a b) s = .next t → t.p = s.p) ∧
    (∀ i : Instr, exec i s = .next t → getFlag s.p .U = true → getFlag t.p .U = true) ∧
    (∀ e : Event, event e s = .next t → getFlag s.p .U = true → getFlag t.p .U = true)

/-- R21 to R24: a register changes only by an instruction of its "written by" list; `Irq` and `Nmi` write
`SP` and no other. -/
def Obligations.RegistersAreWrittenOnlyByTheirInstructions : Prop :=
  ∀ s t : State,
    (∀ (i : Instr) (r : Reg), exec i s = .next t → i.op ∉ registerWriters r → getReg t r = getReg s r) ∧
    (∀ i : Instr, exec i s = .next t → i.op ∈ [Op.asl, .lsr, .rol, .ror] → i.operand ≠ .implied →
      t.a = s.a) ∧
    (∀ (e : Event) (r : Reg), event e s = .next t → e ≠ .clock → e ≠ .reset → r ≠ .SP →
      getReg t r = getReg s r)

/-- R54, R58, R60: memory changes only by the instructions and requests that write it, and then only at
the resolved address, or at the one, two or three stack addresses they push to: `0x0100 + SP` downwards,
modulo the page. `Reset` changes no byte (R261). -/
def Obligations.MemoryIsWrittenOnlyByStores : Prop :=
  ∀ s t : State,
    (∀ i : Instr, exec i s = .next t → i.op ∉ memoryWriters → t.mem = s.mem) ∧
    (∀ i : Instr, exec i s = .next t → i.op ∈ [Op.asl, .lsr, .rol, .ror] → i.operand = .implied →
      t.mem = s.mem) ∧
    (∀ (i : Instr) (a : Addr), exec i s = .next t → t.read a ≠ s.read a →
      (i.op ∈ [Op.sta, .stx, .sty, .inc, .dec, .asl, .lsr, .rol, .ror] ∧ a = resolved i s) ∨
      (i.op ∈ [Op.pha, .php] ∧ a = stackCell s.sp) ∨
      (i.op = .jsr ∧ a ∈ [stackCell s.sp, stackCell (s.sp - 1)]) ∨
      (i.op = .brk ∧ a ∈ [stackCell s.sp, stackCell (s.sp - 1), stackCell (s.sp - 2)])) ∧
    (∀ (e : Event) (a : Addr), event e s = .next t → e = .irq ∨ e = .nmi → t.read a ≠ s.read a →
      a ∈ [stackCell s.sp, stackCell (s.sp - 1), stackCell (s.sp - 2)]) ∧
    (event .reset s = .next t → t.mem = s.mem)

/-- R28 (decision D20): D is inert. Changing D before an instruction changes nothing but D after it, for
every instruction that neither writes D nor pushes the status; what PLP, RTI, SED and CLD leave does not
depend on it; after PHP and BRK, D and the pushed status byte are all that differs. -/
def Obligations.DecimalFlagIsInert : Prop :=
  ∀ (i : Instr) (s t : State) (d : Bool), exec i s = .next t →
    (i.op ∉ [Op.php, .brk, .plp, .rti, .sed, .cld] →
      exec i { s with p := setFlag s.p .D d } = .next { t with p := setFlag t.p .D d }) ∧
    (i.op ∈ [Op.plp, .rti, .sed, .cld] → exec i { s with p := setFlag s.p .D d } = .next t) ∧
    (i.op = .php → ∃ u, exec i { s with p := setFlag s.p .D d } = .next u ∧
      FrameBut [] [.D] [stackCell s.sp] t u ∧ u.pc = t.pc ∧ u.cycles = t.cycles) ∧
    (i.op = .brk → ∃ u, exec i { s with p := setFlag s.p .D d } = .next u ∧
      FrameBut [] [.D] [stackCell (s.sp - 2)] t u ∧ u.pc = t.pc ∧ u.cycles = t.cycles)

/-! ### The disassembler and the bus -/

/-- R100, R101, R102: the disassembler's lines are the walk from `start`: empty when `start > end`,
otherwise the first at `start`, each next one behind the bytes of the one before, all of them at or before
`end`, the last reaching past it; and each line shows what the decoder reads at its address. The
non-wrapping cursor is decision D18. -/
def Obligations.DisassemblyIsTheWalk : Prop :=
  ∀ (s : State) (start stop : Addr),
    (stop.toNat < start.toNat → disassemble s start stop = []) ∧
    (start.toNat ≤ stop.toNat → ∃ l, (disassemble s start stop)[0]? = some l ∧ l.addr = start) ∧
    (∀ (k : Nat) (l : Line), (disassemble s start stop)[k]? = some l →
      l.addr.toNat ≤ stop.toNat ∧ Shows l (fetchInstr { s with pc := l.addr }) ∧
      (∀ l' : Line, (disassemble s start stop)[k + 1]? = some l' →
        l'.addr.toNat = l.addr.toNat + 1 + l.mode.operandBytes) ∧
      ((disassemble s start stop)[k + 1]? = none →
        stop.toNat < l.addr.toNat + 1 + l.mode.operandBytes))

/-- R104, R200: the target the disassembler shows for a branch is where the branch goes when it is taken. -/
def Obligations.DisassemblerShowsTheBranchTarget : Prop :=
  ∀ (s t : State) (start stop : Addr) (l : Line), l ∈ disassemble s start stop → l.mode = .rel →
    s.pc = l.addr → branchTaken l.op s.p = some true → exec (fetchInstr s) s = .next t →
    t.pc = lineTarget l

/-- R65, R70, R71, R62: the bus transactions of an event account for all it does to memory: every read of
the list returns the byte memory holds at that moment, replaying the writes gives the memory after the
event, and an event makes at most six. -/
def Obligations.BusTransactionsExplainMemory : Prop :=
  ∀ (e : Event) (s t : State), e = .clock ∨ e = .reset ∨ e = .irq ∨ e = .nmi → event e s = .next t →
    (eventBus e s).length ≤ 6 ∧ readsAgree s (eventBus e s) ∧ (replay s (eventBus e s)).mem = t.mem ∧
    (∀ x ∈ eventBus e s, x.peek = false)

/-- R100, R101, R52, R71: the transactions of the disassembler are peeks that return the byte memory holds,
with `bus_peek` 1 and no write; their addresses follow one another from `start`, modulo 65536; and the bytes
are those of the instructions at the lines' addresses, in order. The port `bus_peek` is decision D1, the
non-wrapping cursor decision D18. -/
def Obligations.DisassemblerOnlyPeeks : Prop :=
  ∀ (s : State) (start stop : Addr),
    (∀ x ∈ disassembleBus s start stop, x.peek = true ∧ x.we = false ∧ x.data = s.read x.addr) ∧
    (disassembleBus s start stop).map Transaction.addr =
      (List.range (disassembleBus s start stop).length).map (fun k => start + BitVec.ofNat 16 k) ∧
    (disassembleBus s start stop).map Transaction.data =
      (disassemble s start stop).flatMap (fun l => encode (fetchInstr { s with pc := l.addr }))
end

