-- ==== Sys2Proof/Laws/State.lean ====
section
/-! SUPPORT. One lemma per field and per named update of State, each true by rfl. -/

namespace Sys2Proof.Machine.State

@[simp] theorem setA_a (s : State) (v : Byte) : (s.setA v).a = v := rfl
@[simp] theorem setA_x (s : State) (v : Byte) : (s.setA v).x = s.x := rfl
@[simp] theorem setA_y (s : State) (v : Byte) : (s.setA v).y = s.y := rfl
@[simp] theorem setA_sp (s : State) (v : Byte) : (s.setA v).sp = s.sp := rfl
@[simp] theorem setA_p (s : State) (v : Byte) : (s.setA v).p = s.p := rfl
@[simp] theorem setA_pc (s : State) (v : Byte) : (s.setA v).pc = s.pc := rfl
@[simp] theorem setA_fetched (s : State) (v : Byte) : (s.setA v).fetched = s.fetched := rfl
@[simp] theorem setA_addrAbs (s : State) (v : Byte) : (s.setA v).addrAbs = s.addrAbs := rfl
@[simp] theorem setA_addrRel (s : State) (v : Byte) : (s.setA v).addrRel = s.addrRel := rfl
@[simp] theorem setA_opcode (s : State) (v : Byte) : (s.setA v).opcode = s.opcode := rfl
@[simp] theorem setA_cycles (s : State) (v : Byte) : (s.setA v).cycles = s.cycles := rfl
@[simp] theorem setA_mem (s : State) (v : Byte) : (s.setA v).mem = s.mem := rfl
@[simp] theorem setA_resetSeen (s : State) (v : Byte) : (s.setA v).resetSeen = s.resetSeen := rfl
@[simp] theorem setA_config (s : State) (v : Byte) : (s.setA v).config = s.config := rfl
@[simp] theorem setA_inputs (s : State) (v : Byte) : (s.setA v).inputs = s.inputs := rfl

@[simp] theorem setX_a (s : State) (v : Byte) : (s.setX v).a = s.a := rfl
@[simp] theorem setX_x (s : State) (v : Byte) : (s.setX v).x = v := rfl
@[simp] theorem setX_y (s : State) (v : Byte) : (s.setX v).y = s.y := rfl
@[simp] theorem setX_sp (s : State) (v : Byte) : (s.setX v).sp = s.sp := rfl
@[simp] theorem setX_p (s : State) (v : Byte) : (s.setX v).p = s.p := rfl
@[simp] theorem setX_pc (s : State) (v : Byte) : (s.setX v).pc = s.pc := rfl
@[simp] theorem setX_fetched (s : State) (v : Byte) : (s.setX v).fetched = s.fetched := rfl
@[simp] theorem setX_addrAbs (s : State) (v : Byte) : (s.setX v).addrAbs = s.addrAbs := rfl
@[simp] theorem setX_addrRel (s : State) (v : Byte) : (s.setX v).addrRel = s.addrRel := rfl
@[simp] theorem setX_opcode (s : State) (v : Byte) : (s.setX v).opcode = s.opcode := rfl
@[simp] theorem setX_cycles (s : State) (v : Byte) : (s.setX v).cycles = s.cycles := rfl
@[simp] theorem setX_mem (s : State) (v : Byte) : (s.setX v).mem = s.mem := rfl
@[simp] theorem setX_resetSeen (s : State) (v : Byte) : (s.setX v).resetSeen = s.resetSeen := rfl
@[simp] theorem setX_config (s : State) (v : Byte) : (s.setX v).config = s.config := rfl
@[simp] theorem setX_inputs (s : State) (v : Byte) : (s.setX v).inputs = s.inputs := rfl

@[simp] theorem setY_a (s : State) (v : Byte) : (s.setY v).a = s.a := rfl
@[simp] theorem setY_x (s : State) (v : Byte) : (s.setY v).x = s.x := rfl
@[simp] theorem setY_y (s : State) (v : Byte) : (s.setY v).y = v := rfl
@[simp] theorem setY_sp (s : State) (v : Byte) : (s.setY v).sp = s.sp := rfl
@[simp] theorem setY_p (s : State) (v : Byte) : (s.setY v).p = s.p := rfl
@[simp] theorem setY_pc (s : State) (v : Byte) : (s.setY v).pc = s.pc := rfl
@[simp] theorem setY_fetched (s : State) (v : Byte) : (s.setY v).fetched = s.fetched := rfl
@[simp] theorem setY_addrAbs (s : State) (v : Byte) : (s.setY v).addrAbs = s.addrAbs := rfl
@[simp] theorem setY_addrRel (s : State) (v : Byte) : (s.setY v).addrRel = s.addrRel := rfl
@[simp] theorem setY_opcode (s : State) (v : Byte) : (s.setY v).opcode = s.opcode := rfl
@[simp] theorem setY_cycles (s : State) (v : Byte) : (s.setY v).cycles = s.cycles := rfl
@[simp] theorem setY_mem (s : State) (v : Byte) : (s.setY v).mem = s.mem := rfl
@[simp] theorem setY_resetSeen (s : State) (v : Byte) : (s.setY v).resetSeen = s.resetSeen := rfl
@[simp] theorem setY_config (s : State) (v : Byte) : (s.setY v).config = s.config := rfl
@[simp] theorem setY_inputs (s : State) (v : Byte) : (s.setY v).inputs = s.inputs := rfl

@[simp] theorem setSp_a (s : State) (v : Byte) : (s.setSp v).a = s.a := rfl
@[simp] theorem setSp_x (s : State) (v : Byte) : (s.setSp v).x = s.x := rfl
@[simp] theorem setSp_y (s : State) (v : Byte) : (s.setSp v).y = s.y := rfl
@[simp] theorem setSp_sp (s : State) (v : Byte) : (s.setSp v).sp = v := rfl
@[simp] theorem setSp_p (s : State) (v : Byte) : (s.setSp v).p = s.p := rfl
@[simp] theorem setSp_pc (s : State) (v : Byte) : (s.setSp v).pc = s.pc := rfl
@[simp] theorem setSp_fetched (s : State) (v : Byte) : (s.setSp v).fetched = s.fetched := rfl
@[simp] theorem setSp_addrAbs (s : State) (v : Byte) : (s.setSp v).addrAbs = s.addrAbs := rfl
@[simp] theorem setSp_addrRel (s : State) (v : Byte) : (s.setSp v).addrRel = s.addrRel := rfl
@[simp] theorem setSp_opcode (s : State) (v : Byte) : (s.setSp v).opcode = s.opcode := rfl
@[simp] theorem setSp_cycles (s : State) (v : Byte) : (s.setSp v).cycles = s.cycles := rfl
@[simp] theorem setSp_mem (s : State) (v : Byte) : (s.setSp v).mem = s.mem := rfl
@[simp] theorem setSp_resetSeen (s : State) (v : Byte) : (s.setSp v).resetSeen = s.resetSeen := rfl
@[simp] theorem setSp_config (s : State) (v : Byte) : (s.setSp v).config = s.config := rfl
@[simp] theorem setSp_inputs (s : State) (v : Byte) : (s.setSp v).inputs = s.inputs := rfl

@[simp] theorem setP_a (s : State) (v : Byte) : (s.setP v).a = s.a := rfl
@[simp] theorem setP_x (s : State) (v : Byte) : (s.setP v).x = s.x := rfl
@[simp] theorem setP_y (s : State) (v : Byte) : (s.setP v).y = s.y := rfl
@[simp] theorem setP_sp (s : State) (v : Byte) : (s.setP v).sp = s.sp := rfl
@[simp] theorem setP_p (s : State) (v : Byte) : (s.setP v).p = v := rfl
@[simp] theorem setP_pc (s : State) (v : Byte) : (s.setP v).pc = s.pc := rfl
@[simp] theorem setP_fetched (s : State) (v : Byte) : (s.setP v).fetched = s.fetched := rfl
@[simp] theorem setP_addrAbs (s : State) (v : Byte) : (s.setP v).addrAbs = s.addrAbs := rfl
@[simp] theorem setP_addrRel (s : State) (v : Byte) : (s.setP v).addrRel = s.addrRel := rfl
@[simp] theorem setP_opcode (s : State) (v : Byte) : (s.setP v).opcode = s.opcode := rfl
@[simp] theorem setP_cycles (s : State) (v : Byte) : (s.setP v).cycles = s.cycles := rfl
@[simp] theorem setP_mem (s : State) (v : Byte) : (s.setP v).mem = s.mem := rfl
@[simp] theorem setP_resetSeen (s : State) (v : Byte) : (s.setP v).resetSeen = s.resetSeen := rfl
@[simp] theorem setP_config (s : State) (v : Byte) : (s.setP v).config = s.config := rfl
@[simp] theorem setP_inputs (s : State) (v : Byte) : (s.setP v).inputs = s.inputs := rfl

@[simp] theorem setPc_a (s : State) (v : Addr) : (s.setPc v).a = s.a := rfl
@[simp] theorem setPc_x (s : State) (v : Addr) : (s.setPc v).x = s.x := rfl
@[simp] theorem setPc_y (s : State) (v : Addr) : (s.setPc v).y = s.y := rfl
@[simp] theorem setPc_sp (s : State) (v : Addr) : (s.setPc v).sp = s.sp := rfl
@[simp] theorem setPc_p (s : State) (v : Addr) : (s.setPc v).p = s.p := rfl
@[simp] theorem setPc_pc (s : State) (v : Addr) : (s.setPc v).pc = v := rfl
@[simp] theorem setPc_fetched (s : State) (v : Addr) : (s.setPc v).fetched = s.fetched := rfl
@[simp] theorem setPc_addrAbs (s : State) (v : Addr) : (s.setPc v).addrAbs = s.addrAbs := rfl
@[simp] theorem setPc_addrRel (s : State) (v : Addr) : (s.setPc v).addrRel = s.addrRel := rfl
@[simp] theorem setPc_opcode (s : State) (v : Addr) : (s.setPc v).opcode = s.opcode := rfl
@[simp] theorem setPc_cycles (s : State) (v : Addr) : (s.setPc v).cycles = s.cycles := rfl
@[simp] theorem setPc_mem (s : State) (v : Addr) : (s.setPc v).mem = s.mem := rfl
@[simp] theorem setPc_resetSeen (s : State) (v : Addr) : (s.setPc v).resetSeen = s.resetSeen := rfl
@[simp] theorem setPc_config (s : State) (v : Addr) : (s.setPc v).config = s.config := rfl
@[simp] theorem setPc_inputs (s : State) (v : Addr) : (s.setPc v).inputs = s.inputs := rfl

@[simp] theorem setFetched_a (s : State) (v : Byte) : (s.setFetched v).a = s.a := rfl
@[simp] theorem setFetched_x (s : State) (v : Byte) : (s.setFetched v).x = s.x := rfl
@[simp] theorem setFetched_y (s : State) (v : Byte) : (s.setFetched v).y = s.y := rfl
@[simp] theorem setFetched_sp (s : State) (v : Byte) : (s.setFetched v).sp = s.sp := rfl
@[simp] theorem setFetched_p (s : State) (v : Byte) : (s.setFetched v).p = s.p := rfl
@[simp] theorem setFetched_pc (s : State) (v : Byte) : (s.setFetched v).pc = s.pc := rfl
@[simp] theorem setFetched_fetched (s : State) (v : Byte) : (s.setFetched v).fetched = v := rfl
@[simp] theorem setFetched_addrAbs (s : State) (v : Byte) : (s.setFetched v).addrAbs = s.addrAbs := rfl
@[simp] theorem setFetched_addrRel (s : State) (v : Byte) : (s.setFetched v).addrRel = s.addrRel := rfl
@[simp] theorem setFetched_opcode (s : State) (v : Byte) : (s.setFetched v).opcode = s.opcode := rfl
@[simp] theorem setFetched_cycles (s : State) (v : Byte) : (s.setFetched v).cycles = s.cycles := rfl
@[simp] theorem setFetched_mem (s : State) (v : Byte) : (s.setFetched v).mem = s.mem := rfl
@[simp] theorem setFetched_resetSeen (s : State) (v : Byte) : (s.setFetched v).resetSeen = s.resetSeen := rfl
@[simp] theorem setFetched_config (s : State) (v : Byte) : (s.setFetched v).config = s.config := rfl
@[simp] theorem setFetched_inputs (s : State) (v : Byte) : (s.setFetched v).inputs = s.inputs := rfl

@[simp] theorem setAddrAbs_a (s : State) (v : Addr) : (s.setAddrAbs v).a = s.a := rfl
@[simp] theorem setAddrAbs_x (s : State) (v : Addr) : (s.setAddrAbs v).x = s.x := rfl
@[simp] theorem setAddrAbs_y (s : State) (v : Addr) : (s.setAddrAbs v).y = s.y := rfl
@[simp] theorem setAddrAbs_sp (s : State) (v : Addr) : (s.setAddrAbs v).sp = s.sp := rfl
@[simp] theorem setAddrAbs_p (s : State) (v : Addr) : (s.setAddrAbs v).p = s.p := rfl
@[simp] theorem setAddrAbs_pc (s : State) (v : Addr) : (s.setAddrAbs v).pc = s.pc := rfl
@[simp] theorem setAddrAbs_fetched (s : State) (v : Addr) : (s.setAddrAbs v).fetched = s.fetched := rfl
@[simp] theorem setAddrAbs_addrAbs (s : State) (v : Addr) : (s.setAddrAbs v).addrAbs = v := rfl
@[simp] theorem setAddrAbs_addrRel (s : State) (v : Addr) : (s.setAddrAbs v).addrRel = s.addrRel := rfl
@[simp] theorem setAddrAbs_opcode (s : State) (v : Addr) : (s.setAddrAbs v).opcode = s.opcode := rfl
@[simp] theorem setAddrAbs_cycles (s : State) (v : Addr) : (s.setAddrAbs v).cycles = s.cycles := rfl
@[simp] theorem setAddrAbs_mem (s : State) (v : Addr) : (s.setAddrAbs v).mem = s.mem := rfl
@[simp] theorem setAddrAbs_resetSeen (s : State) (v : Addr) : (s.setAddrAbs v).resetSeen = s.resetSeen := rfl
@[simp] theorem setAddrAbs_config (s : State) (v : Addr) : (s.setAddrAbs v).config = s.config := rfl
@[simp] theorem setAddrAbs_inputs (s : State) (v : Addr) : (s.setAddrAbs v).inputs = s.inputs := rfl

@[simp] theorem setAddrRel_a (s : State) (v : Addr) : (s.setAddrRel v).a = s.a := rfl
@[simp] theorem setAddrRel_x (s : State) (v : Addr) : (s.setAddrRel v).x = s.x := rfl
@[simp] theorem setAddrRel_y (s : State) (v : Addr) : (s.setAddrRel v).y = s.y := rfl
@[simp] theorem setAddrRel_sp (s : State) (v : Addr) : (s.setAddrRel v).sp = s.sp := rfl
@[simp] theorem setAddrRel_p (s : State) (v : Addr) : (s.setAddrRel v).p = s.p := rfl
@[simp] theorem setAddrRel_pc (s : State) (v : Addr) : (s.setAddrRel v).pc = s.pc := rfl
@[simp] theorem setAddrRel_fetched (s : State) (v : Addr) : (s.setAddrRel v).fetched = s.fetched := rfl
@[simp] theorem setAddrRel_addrAbs (s : State) (v : Addr) : (s.setAddrRel v).addrAbs = s.addrAbs := rfl
@[simp] theorem setAddrRel_addrRel (s : State) (v : Addr) : (s.setAddrRel v).addrRel = v := rfl
@[simp] theorem setAddrRel_opcode (s : State) (v : Addr) : (s.setAddrRel v).opcode = s.opcode := rfl
@[simp] theorem setAddrRel_cycles (s : State) (v : Addr) : (s.setAddrRel v).cycles = s.cycles := rfl
@[simp] theorem setAddrRel_mem (s : State) (v : Addr) : (s.setAddrRel v).mem = s.mem := rfl
@[simp] theorem setAddrRel_resetSeen (s : State) (v : Addr) : (s.setAddrRel v).resetSeen = s.resetSeen := rfl
@[simp] theorem setAddrRel_config (s : State) (v : Addr) : (s.setAddrRel v).config = s.config := rfl
@[simp] theorem setAddrRel_inputs (s : State) (v : Addr) : (s.setAddrRel v).inputs = s.inputs := rfl

@[simp] theorem setOpcode_a (s : State) (v : Byte) : (s.setOpcode v).a = s.a := rfl
@[simp] theorem setOpcode_x (s : State) (v : Byte) : (s.setOpcode v).x = s.x := rfl
@[simp] theorem setOpcode_y (s : State) (v : Byte) : (s.setOpcode v).y = s.y := rfl
@[simp] theorem setOpcode_sp (s : State) (v : Byte) : (s.setOpcode v).sp = s.sp := rfl
@[simp] theorem setOpcode_p (s : State) (v : Byte) : (s.setOpcode v).p = s.p := rfl
@[simp] theorem setOpcode_pc (s : State) (v : Byte) : (s.setOpcode v).pc = s.pc := rfl
@[simp] theorem setOpcode_fetched (s : State) (v : Byte) : (s.setOpcode v).fetched = s.fetched := rfl
@[simp] theorem setOpcode_addrAbs (s : State) (v : Byte) : (s.setOpcode v).addrAbs = s.addrAbs := rfl
@[simp] theorem setOpcode_addrRel (s : State) (v : Byte) : (s.setOpcode v).addrRel = s.addrRel := rfl
@[simp] theorem setOpcode_opcode (s : State) (v : Byte) : (s.setOpcode v).opcode = v := rfl
@[simp] theorem setOpcode_cycles (s : State) (v : Byte) : (s.setOpcode v).cycles = s.cycles := rfl
@[simp] theorem setOpcode_mem (s : State) (v : Byte) : (s.setOpcode v).mem = s.mem := rfl
@[simp] theorem setOpcode_resetSeen (s : State) (v : Byte) : (s.setOpcode v).resetSeen = s.resetSeen := rfl
@[simp] theorem setOpcode_config (s : State) (v : Byte) : (s.setOpcode v).config = s.config := rfl
@[simp] theorem setOpcode_inputs (s : State) (v : Byte) : (s.setOpcode v).inputs = s.inputs := rfl

@[simp] theorem setCycles_a (s : State) (v : Nat) : (s.setCycles v).a = s.a := rfl
@[simp] theorem setCycles_x (s : State) (v : Nat) : (s.setCycles v).x = s.x := rfl
@[simp] theorem setCycles_y (s : State) (v : Nat) : (s.setCycles v).y = s.y := rfl
@[simp] theorem setCycles_sp (s : State) (v : Nat) : (s.setCycles v).sp = s.sp := rfl
@[simp] theorem setCycles_p (s : State) (v : Nat) : (s.setCycles v).p = s.p := rfl
@[simp] theorem setCycles_pc (s : State) (v : Nat) : (s.setCycles v).pc = s.pc := rfl
@[simp] theorem setCycles_fetched (s : State) (v : Nat) : (s.setCycles v).fetched = s.fetched := rfl
@[simp] theorem setCycles_addrAbs (s : State) (v : Nat) : (s.setCycles v).addrAbs = s.addrAbs := rfl
@[simp] theorem setCycles_addrRel (s : State) (v : Nat) : (s.setCycles v).addrRel = s.addrRel := rfl
@[simp] theorem setCycles_opcode (s : State) (v : Nat) : (s.setCycles v).opcode = s.opcode := rfl
@[simp] theorem setCycles_cycles (s : State) (v : Nat) : (s.setCycles v).cycles = v := rfl
@[simp] theorem setCycles_mem (s : State) (v : Nat) : (s.setCycles v).mem = s.mem := rfl
@[simp] theorem setCycles_resetSeen (s : State) (v : Nat) : (s.setCycles v).resetSeen = s.resetSeen := rfl
@[simp] theorem setCycles_config (s : State) (v : Nat) : (s.setCycles v).config = s.config := rfl
@[simp] theorem setCycles_inputs (s : State) (v : Nat) : (s.setCycles v).inputs = s.inputs := rfl

@[simp] theorem setMem_a (s : State) (v : Memory) : (s.setMem v).a = s.a := rfl
@[simp] theorem setMem_x (s : State) (v : Memory) : (s.setMem v).x = s.x := rfl
@[simp] theorem setMem_y (s : State) (v : Memory) : (s.setMem v).y = s.y := rfl
@[simp] theorem setMem_sp (s : State) (v : Memory) : (s.setMem v).sp = s.sp := rfl
@[simp] theorem setMem_p (s : State) (v : Memory) : (s.setMem v).p = s.p := rfl
@[simp] theorem setMem_pc (s : State) (v : Memory) : (s.setMem v).pc = s.pc := rfl
@[simp] theorem setMem_fetched (s : State) (v : Memory) : (s.setMem v).fetched = s.fetched := rfl
@[simp] theorem setMem_addrAbs (s : State) (v : Memory) : (s.setMem v).addrAbs = s.addrAbs := rfl
@[simp] theorem setMem_addrRel (s : State) (v : Memory) : (s.setMem v).addrRel = s.addrRel := rfl
@[simp] theorem setMem_opcode (s : State) (v : Memory) : (s.setMem v).opcode = s.opcode := rfl
@[simp] theorem setMem_cycles (s : State) (v : Memory) : (s.setMem v).cycles = s.cycles := rfl
@[simp] theorem setMem_mem (s : State) (v : Memory) : (s.setMem v).mem = v := rfl
@[simp] theorem setMem_resetSeen (s : State) (v : Memory) : (s.setMem v).resetSeen = s.resetSeen := rfl
@[simp] theorem setMem_config (s : State) (v : Memory) : (s.setMem v).config = s.config := rfl
@[simp] theorem setMem_inputs (s : State) (v : Memory) : (s.setMem v).inputs = s.inputs := rfl

@[simp] theorem setResetSeen_a (s : State) (v : Bool) : (s.setResetSeen v).a = s.a := rfl
@[simp] theorem setResetSeen_x (s : State) (v : Bool) : (s.setResetSeen v).x = s.x := rfl
@[simp] theorem setResetSeen_y (s : State) (v : Bool) : (s.setResetSeen v).y = s.y := rfl
@[simp] theorem setResetSeen_sp (s : State) (v : Bool) : (s.setResetSeen v).sp = s.sp := rfl
@[simp] theorem setResetSeen_p (s : State) (v : Bool) : (s.setResetSeen v).p = s.p := rfl
@[simp] theorem setResetSeen_pc (s : State) (v : Bool) : (s.setResetSeen v).pc = s.pc := rfl
@[simp] theorem setResetSeen_fetched (s : State) (v : Bool) : (s.setResetSeen v).fetched = s.fetched := rfl
@[simp] theorem setResetSeen_addrAbs (s : State) (v : Bool) : (s.setResetSeen v).addrAbs = s.addrAbs := rfl
@[simp] theorem setResetSeen_addrRel (s : State) (v : Bool) : (s.setResetSeen v).addrRel = s.addrRel := rfl
@[simp] theorem setResetSeen_opcode (s : State) (v : Bool) : (s.setResetSeen v).opcode = s.opcode := rfl
@[simp] theorem setResetSeen_cycles (s : State) (v : Bool) : (s.setResetSeen v).cycles = s.cycles := rfl
@[simp] theorem setResetSeen_mem (s : State) (v : Bool) : (s.setResetSeen v).mem = s.mem := rfl
@[simp] theorem setResetSeen_resetSeen (s : State) (v : Bool) : (s.setResetSeen v).resetSeen = v := rfl
@[simp] theorem setResetSeen_config (s : State) (v : Bool) : (s.setResetSeen v).config = s.config := rfl
@[simp] theorem setResetSeen_inputs (s : State) (v : Bool) : (s.setResetSeen v).inputs = s.inputs := rfl

@[simp] theorem setInputs_a (s : State) (v : List Event) : (s.setInputs v).a = s.a := rfl
@[simp] theorem setInputs_x (s : State) (v : List Event) : (s.setInputs v).x = s.x := rfl
@[simp] theorem setInputs_y (s : State) (v : List Event) : (s.setInputs v).y = s.y := rfl
@[simp] theorem setInputs_sp (s : State) (v : List Event) : (s.setInputs v).sp = s.sp := rfl
@[simp] theorem setInputs_p (s : State) (v : List Event) : (s.setInputs v).p = s.p := rfl
@[simp] theorem setInputs_pc (s : State) (v : List Event) : (s.setInputs v).pc = s.pc := rfl
@[simp] theorem setInputs_fetched (s : State) (v : List Event) : (s.setInputs v).fetched = s.fetched := rfl
@[simp] theorem setInputs_addrAbs (s : State) (v : List Event) : (s.setInputs v).addrAbs = s.addrAbs := rfl
@[simp] theorem setInputs_addrRel (s : State) (v : List Event) : (s.setInputs v).addrRel = s.addrRel := rfl
@[simp] theorem setInputs_opcode (s : State) (v : List Event) : (s.setInputs v).opcode = s.opcode := rfl
@[simp] theorem setInputs_cycles (s : State) (v : List Event) : (s.setInputs v).cycles = s.cycles := rfl
@[simp] theorem setInputs_mem (s : State) (v : List Event) : (s.setInputs v).mem = s.mem := rfl
@[simp] theorem setInputs_resetSeen (s : State) (v : List Event) : (s.setInputs v).resetSeen = s.resetSeen := rfl
@[simp] theorem setInputs_config (s : State) (v : List Event) : (s.setInputs v).config = s.config := rfl
@[simp] theorem setInputs_inputs (s : State) (v : List Event) : (s.setInputs v).inputs = v := rfl

end Sys2Proof.Machine.State
end

