-- ==== Sys2Proof/Laws/Memory.lean ====
section
/-! SUPPORT. Read after write, the canonical form of memory, and the stack operations (spec/20_memory.md). -/

namespace Sys2Proof.Machine

/-! ### The bytes of a 16-bit value -/

/-- Bits of `hi ## lo`. -/
theorem getLsbD_join (h l : Byte) (i : Nat) :
    (join h l).getLsbD i = if i < 8 then l.getLsbD i else h.getLsbD (i - 8) := by
  show (h ++ l).getLsbD i = _
  rw [BitVec.getLsbD_append]

@[simp] theorem loByte_join (h l : Byte) : loByte (join h l) = l := by
  apply BitVec.eq_of_getLsbD_eq
  intro i hi
  simp only [loByte, BitVec.getLsbD_extractLsb', getLsbD_join]
  simp [hi]

@[simp] theorem hiByte_join (h l : Byte) : hiByte (join h l) = h := by
  apply BitVec.eq_of_getLsbD_eq
  intro i hi
  simp only [hiByte, BitVec.getLsbD_extractLsb', getLsbD_join]
  simp [hi]

/-- The two bytes of a 16-bit value make it up again. -/
@[simp] theorem join_hiByte_loByte (a : Addr) : join (hiByte a) (loByte a) = a := by
  apply BitVec.eq_of_getLsbD_eq
  intro i hi
  simp only [getLsbD_join, hiByte, loByte, BitVec.getLsbD_extractLsb']
  split
  · simp [*]
  · have : i - 8 < 8 := by omega
    simp [this, show 8 + (i - 8) = i by omega]

/-! ### The list -/

/-- Looking up what was stored, and everything else as before (R53). -/
theorem lookup_store (m : Memory) (a b : Nat) (v : Byte) :
    lookup (store a v m) b = if b = a then some v else lookup m b := by
  induction m with
  | nil => simp [store, lookup, eq_comm]
  | cons c m ih =>
    obtain ⟨k, w⟩ := c
    simp only [store]
    split
    · simp [lookup, eq_comm]
    · split
      · subst_vars
        by_cases h : b = k <;> simp [lookup, h, eq_comm]
      · by_cases h : k = b
        · subst h; simp [lookup]; omega
        · simp [lookup, h, ih]

/-- Every cell of a memory after a store is the stored one or was there before. -/
theorem mem_store {m : Memory} {a : Nat} {v : Byte} {c : Host.Cell} (h : c ∈ store a v m) :
    c = (a, v) ∨ c ∈ m := by
  induction m with
  | nil => simpa [store] using h
  | cons d m ih =>
    simp only [store] at h
    split at h
    · simpa using h
    · split at h
      · rcases List.mem_cons.1 h with h | h
        · exact .inl h
        · exact .inr (List.mem_cons_of_mem _ h)
      · rcases List.mem_cons.1 h with h | h
        · exact .inr (h ▸ List.mem_cons_self)
        · exact (ih h).imp_right (List.mem_cons_of_mem _)

/-- A store keeps the canonical form. -/
theorem store_wf {m : Memory} {a : Nat} {v : Byte} (ha : a < 65536) (h : Memory.wf m) :
    Memory.wf (store a v m) := by
  refine ⟨?_, fun c hc => ?_⟩
  · have hp := h.1
    clear h
    induction m with
    | nil => simp [store]
    | cons d m ih =>
      obtain ⟨hd, hm⟩ := List.pairwise_cons.1 hp
      simp only [store]
      split
      · rename_i hlt
        refine List.pairwise_cons.2 ⟨fun c hc => ?_, hp⟩
        rcases List.mem_cons.1 hc with rfl | hc
        · exact hlt
        · exact lt_trans hlt (hd c hc)
      · split
        · rename_i heq
          exact List.pairwise_cons.2 ⟨fun c hc => by simpa [heq] using hd c hc, hm⟩
        · rename_i hnlt hne
          refine List.pairwise_cons.2 ⟨fun c hc => ?_, ih hm⟩
          rcases mem_store hc with rfl | hc
          · exact lt_of_le_of_ne (not_lt.1 hnlt) (Ne.symm hne)
          · exact hd c hc
  · rcases mem_store hc with rfl | hc
    · exact ha
    · exact h.2 c hc

/-! ### Memory of a state -/

/-- `MemWrite` then `MemRead` (R53). -/
theorem read_write (s : State) (a b : Addr) (v : Byte) :
    (s.write a v).read b = if b = a then v else s.read b := by
  simp only [State.read, State.write, State.setMem_mem, lookup_store, BitVec.toNat_inj]
  split <;> simp_all

@[simp] theorem read_write_self (s : State) (a : Addr) (v : Byte) : (s.write a v).read a = v := by
  simp [read_write]

theorem read_write_ne (s : State) {a b : Addr} (v : Byte) (h : b ≠ a) :
    (s.write a v).read b = s.read b := by
  simp [read_write, h]

/-- `MemWrite` keeps the canonical form. -/
theorem write_wf {s : State} (a : Addr) (v : Byte) (h : Memory.wf s.mem) :
    Memory.wf (s.write a v).mem := store_wf a.isLt h

@[simp] theorem write_a (s : State) (a : Addr) (v : Byte) : (s.write a v).a = s.a := rfl
@[simp] theorem write_x (s : State) (a : Addr) (v : Byte) : (s.write a v).x = s.x := rfl
@[simp] theorem write_y (s : State) (a : Addr) (v : Byte) : (s.write a v).y = s.y := rfl
@[simp] theorem write_sp (s : State) (a : Addr) (v : Byte) : (s.write a v).sp = s.sp := rfl
@[simp] theorem write_p (s : State) (a : Addr) (v : Byte) : (s.write a v).p = s.p := rfl
@[simp] theorem write_pc (s : State) (a : Addr) (v : Byte) : (s.write a v).pc = s.pc := rfl
@[simp] theorem write_fetched (s : State) (a : Addr) (v : Byte) : (s.write a v).fetched = s.fetched := rfl
@[simp] theorem write_addrAbs (s : State) (a : Addr) (v : Byte) : (s.write a v).addrAbs = s.addrAbs := rfl
@[simp] theorem write_addrRel (s : State) (a : Addr) (v : Byte) : (s.write a v).addrRel = s.addrRel := rfl
@[simp] theorem write_opcode (s : State) (a : Addr) (v : Byte) : (s.write a v).opcode = s.opcode := rfl
@[simp] theorem write_cycles (s : State) (a : Addr) (v : Byte) : (s.write a v).cycles = s.cycles := rfl
@[simp] theorem write_resetSeen (s : State) (a : Addr) (v : Byte) : (s.write a v).resetSeen = s.resetSeen := rfl
@[simp] theorem write_config (s : State) (a : Addr) (v : Byte) : (s.write a v).config = s.config := rfl
@[simp] theorem write_inputs (s : State) (a : Addr) (v : Byte) : (s.write a v).inputs = s.inputs := rfl

/-- A read depends on memory alone. -/
theorem read_congr {s t : State} (h : t.mem = s.mem) (a : Addr) : t.read a = s.read a := by
  simp [State.read, h]

@[simp] theorem setA_read (s : State) (v : Byte) (a : Addr) : (s.setA v).read a = s.read a := rfl
@[simp] theorem setX_read (s : State) (v : Byte) (a : Addr) : (s.setX v).read a = s.read a := rfl
@[simp] theorem setY_read (s : State) (v : Byte) (a : Addr) : (s.setY v).read a = s.read a := rfl
@[simp] theorem setSp_read (s : State) (v : Byte) (a : Addr) : (s.setSp v).read a = s.read a := rfl
@[simp] theorem setP_read (s : State) (v : Byte) (a : Addr) : (s.setP v).read a = s.read a := rfl
@[simp] theorem setPc_read (s : State) (v : Addr) (a : Addr) : (s.setPc v).read a = s.read a := rfl
@[simp] theorem setFetched_read (s : State) (v : Byte) (a : Addr) : (s.setFetched v).read a = s.read a := rfl
@[simp] theorem setAddrAbs_read (s : State) (v : Addr) (a : Addr) : (s.setAddrAbs v).read a = s.read a := rfl
@[simp] theorem setAddrRel_read (s : State) (v : Addr) (a : Addr) : (s.setAddrRel v).read a = s.read a := rfl
@[simp] theorem setOpcode_read (s : State) (v : Byte) (a : Addr) : (s.setOpcode v).read a = s.read a := rfl
@[simp] theorem setCycles_read (s : State) (v : Nat) (a : Addr) : (s.setCycles v).read a = s.read a := rfl
@[simp] theorem setResetSeen_read (s : State) (v : Bool) (a : Addr) : (s.setResetSeen v).read a = s.read a := rfl
@[simp] theorem setInputs_read (s : State) (v : List Event) (a : Addr) : (s.setInputs v).read a = s.read a := rfl

/-! ### The stack -/

/-- Two stack addresses are equal only for equal stack pointers (R57). -/
theorem stackAddr_inj {p q : Byte} : stackAddr p = stackAddr q ↔ p = q :=
  ⟨fun h => by simpa [stackAddr, loByte_join] using congrArg loByte h, fun h => h ▸ rfl⟩

@[simp] theorem push_a (v : Byte) (s : State) : (push v s).a = s.a := rfl
@[simp] theorem push_x (v : Byte) (s : State) : (push v s).x = s.x := rfl
@[simp] theorem push_y (v : Byte) (s : State) : (push v s).y = s.y := rfl
@[simp] theorem push_sp (v : Byte) (s : State) : (push v s).sp = s.sp - 1 := rfl
@[simp] theorem push_p (v : Byte) (s : State) : (push v s).p = s.p := rfl
@[simp] theorem push_pc (v : Byte) (s : State) : (push v s).pc = s.pc := rfl
@[simp] theorem push_fetched (v : Byte) (s : State) : (push v s).fetched = s.fetched := rfl
@[simp] theorem push_addrAbs (v : Byte) (s : State) : (push v s).addrAbs = s.addrAbs := rfl
@[simp] theorem push_addrRel (v : Byte) (s : State) : (push v s).addrRel = s.addrRel := rfl
@[simp] theorem push_opcode (v : Byte) (s : State) : (push v s).opcode = s.opcode := rfl
@[simp] theorem push_cycles (v : Byte) (s : State) : (push v s).cycles = s.cycles := rfl
@[simp] theorem push_resetSeen (v : Byte) (s : State) : (push v s).resetSeen = s.resetSeen := rfl
@[simp] theorem push_config (v : Byte) (s : State) : (push v s).config = s.config := rfl
@[simp] theorem push_inputs (v : Byte) (s : State) : (push v s).inputs = s.inputs := rfl

@[simp] theorem popState_a (s : State) : (popState s).a = s.a := rfl
@[simp] theorem popState_x (s : State) : (popState s).x = s.x := rfl
@[simp] theorem popState_y (s : State) : (popState s).y = s.y := rfl
@[simp] theorem popState_sp (s : State) : (popState s).sp = s.sp + 1 := rfl
@[simp] theorem popState_p (s : State) : (popState s).p = s.p := rfl
@[simp] theorem popState_pc (s : State) : (popState s).pc = s.pc := rfl
@[simp] theorem popState_fetched (s : State) : (popState s).fetched = s.fetched := rfl
@[simp] theorem popState_addrAbs (s : State) : (popState s).addrAbs = s.addrAbs := rfl
@[simp] theorem popState_addrRel (s : State) : (popState s).addrRel = s.addrRel := rfl
@[simp] theorem popState_opcode (s : State) : (popState s).opcode = s.opcode := rfl
@[simp] theorem popState_cycles (s : State) : (popState s).cycles = s.cycles := rfl
@[simp] theorem popState_mem (s : State) : (popState s).mem = s.mem := rfl
@[simp] theorem popState_resetSeen (s : State) : (popState s).resetSeen = s.resetSeen := rfl
@[simp] theorem popState_config (s : State) : (popState s).config = s.config := rfl
@[simp] theorem popState_inputs (s : State) : (popState s).inputs = s.inputs := rfl

/-- What a push leaves in memory (R58). -/
theorem read_push (v : Byte) (s : State) (a : Addr) :
    (push v s).read a = if a = stackAddr s.sp then v else s.read a := by
  simp [push, read_write]

@[simp] theorem popState_read (s : State) (a : Addr) : (popState s).read a = s.read a := rfl

/-- A push keeps the canonical form. -/
theorem push_wf {v : Byte} {s : State} (h : Memory.wf s.mem) : Memory.wf (push v s).mem := write_wf _ _ h

/-- "A push followed by the corresponding pop restores the pushed value" (R59). -/
@[simp] theorem popByte_push (v : Byte) (s : State) : popByte (push v s) = v := by
  simp [popByte, read_push]

end Sys2Proof.Machine
end

