-- ==== Sys2Proof/Laws/Rom.lean ====
section
/-! SUPPORT. The decode ROM and the decoder at each assigned opcode byte, and at the unassigned ones
(spec/30_encoding.md R88, R89). -/

namespace Sys2Proof

/-! ### The ROM entry of each assigned byte: operation, mode, base cycles (R88) -/

@[simp] theorem rom_x00 (c : Config) : rom c 0x00#8 = ⟨.brk, .imp, 7⟩ := rfl
@[simp] theorem rom_x01 (c : Config) : rom c 0x01#8 = ⟨.ora, .izx, 6⟩ := rfl
@[simp] theorem rom_x05 (c : Config) : rom c 0x05#8 = ⟨.ora, .zp0, 3⟩ := rfl
@[simp] theorem rom_x06 (c : Config) : rom c 0x06#8 = ⟨.asl, .zp0, 5⟩ := rfl
@[simp] theorem rom_x08 (c : Config) : rom c 0x08#8 = ⟨.php, .imp, 3⟩ := rfl
@[simp] theorem rom_x09 (c : Config) : rom c 0x09#8 = ⟨.ora, .imm, 2⟩ := rfl
@[simp] theorem rom_x0A (c : Config) : rom c 0x0A#8 = ⟨.asl, .imp, 2⟩ := rfl
@[simp] theorem rom_x0D (c : Config) : rom c 0x0D#8 = ⟨.ora, .abs, 4⟩ := rfl
@[simp] theorem rom_x0E (c : Config) : rom c 0x0E#8 = ⟨.asl, .abs, 6⟩ := rfl
@[simp] theorem rom_x10 (c : Config) : rom c 0x10#8 = ⟨.bpl, .rel, 2⟩ := rfl
@[simp] theorem rom_x11 (c : Config) : rom c 0x11#8 = ⟨.ora, .izy, 5⟩ := rfl
@[simp] theorem rom_x15 (c : Config) : rom c 0x15#8 = ⟨.ora, .zpx, 4⟩ := rfl
@[simp] theorem rom_x16 (c : Config) : rom c 0x16#8 = ⟨.asl, .zpx, 6⟩ := rfl
@[simp] theorem rom_x18 (c : Config) : rom c 0x18#8 = ⟨.clc, .imp, 2⟩ := rfl
@[simp] theorem rom_x19 (c : Config) : rom c 0x19#8 = ⟨.ora, .aby, 4⟩ := rfl
@[simp] theorem rom_x1D (c : Config) : rom c 0x1D#8 = ⟨.ora, .abx, 4⟩ := rfl
@[simp] theorem rom_x1E (c : Config) : rom c 0x1E#8 = ⟨.asl, .abx, 7⟩ := rfl
@[simp] theorem rom_x20 (c : Config) : rom c 0x20#8 = ⟨.jsr, .abs, 6⟩ := rfl
@[simp] theorem rom_x21 (c : Config) : rom c 0x21#8 = ⟨.and, .izx, 6⟩ := rfl
@[simp] theorem rom_x24 (c : Config) : rom c 0x24#8 = ⟨.bit, .zp0, 3⟩ := rfl
@[simp] theorem rom_x25 (c : Config) : rom c 0x25#8 = ⟨.and, .zp0, 3⟩ := rfl
@[simp] theorem rom_x26 (c : Config) : rom c 0x26#8 = ⟨.rol, .zp0, 5⟩ := rfl
@[simp] theorem rom_x28 (c : Config) : rom c 0x28#8 = ⟨.plp, .imp, 4⟩ := rfl
@[simp] theorem rom_x29 (c : Config) : rom c 0x29#8 = ⟨.and, .imm, 2⟩ := rfl
@[simp] theorem rom_x2A (c : Config) : rom c 0x2A#8 = ⟨.rol, .imp, 2⟩ := rfl
@[simp] theorem rom_x2C (c : Config) : rom c 0x2C#8 = ⟨.bit, .abs, 4⟩ := rfl
@[simp] theorem rom_x2D (c : Config) : rom c 0x2D#8 = ⟨.and, .abs, 4⟩ := rfl
@[simp] theorem rom_x2E (c : Config) : rom c 0x2E#8 = ⟨.rol, .abs, 6⟩ := rfl
@[simp] theorem rom_x30 (c : Config) : rom c 0x30#8 = ⟨.bmi, .rel, 2⟩ := rfl
@[simp] theorem rom_x31 (c : Config) : rom c 0x31#8 = ⟨.and, .izy, 5⟩ := rfl
@[simp] theorem rom_x35 (c : Config) : rom c 0x35#8 = ⟨.and, .zpx, 4⟩ := rfl
@[simp] theorem rom_x36 (c : Config) : rom c 0x36#8 = ⟨.rol, .zpx, 6⟩ := rfl
@[simp] theorem rom_x38 (c : Config) : rom c 0x38#8 = ⟨.sec, .imp, 2⟩ := rfl
@[simp] theorem rom_x39 (c : Config) : rom c 0x39#8 = ⟨.and, .aby, 4⟩ := rfl
@[simp] theorem rom_x3D (c : Config) : rom c 0x3D#8 = ⟨.and, .abx, 4⟩ := rfl
@[simp] theorem rom_x3E (c : Config) : rom c 0x3E#8 = ⟨.rol, .abx, 7⟩ := rfl
@[simp] theorem rom_x40 (c : Config) : rom c 0x40#8 = ⟨.rti, .imp, 6⟩ := rfl
@[simp] theorem rom_x41 (c : Config) : rom c 0x41#8 = ⟨.eor, .izx, 6⟩ := rfl
@[simp] theorem rom_x45 (c : Config) : rom c 0x45#8 = ⟨.eor, .zp0, 3⟩ := rfl
@[simp] theorem rom_x46 (c : Config) : rom c 0x46#8 = ⟨.lsr, .zp0, 5⟩ := rfl
@[simp] theorem rom_x48 (c : Config) : rom c 0x48#8 = ⟨.pha, .imp, 3⟩ := rfl
@[simp] theorem rom_x49 (c : Config) : rom c 0x49#8 = ⟨.eor, .imm, 2⟩ := rfl
@[simp] theorem rom_x4A (c : Config) : rom c 0x4A#8 = ⟨.lsr, .imp, 2⟩ := rfl
@[simp] theorem rom_x4C (c : Config) : rom c 0x4C#8 = ⟨.jmp, .abs, 3⟩ := rfl
@[simp] theorem rom_x4D (c : Config) : rom c 0x4D#8 = ⟨.eor, .abs, 4⟩ := rfl
@[simp] theorem rom_x4E (c : Config) : rom c 0x4E#8 = ⟨.lsr, .abs, 6⟩ := rfl
@[simp] theorem rom_x50 (c : Config) : rom c 0x50#8 = ⟨.bvc, .rel, 2⟩ := rfl
@[simp] theorem rom_x51 (c : Config) : rom c 0x51#8 = ⟨.eor, .izy, 5⟩ := rfl
@[simp] theorem rom_x55 (c : Config) : rom c 0x55#8 = ⟨.eor, .zpx, 4⟩ := rfl
@[simp] theorem rom_x56 (c : Config) : rom c 0x56#8 = ⟨.lsr, .zpx, 6⟩ := rfl
@[simp] theorem rom_x58 (c : Config) : rom c 0x58#8 = ⟨.cli, .imp, 2⟩ := rfl
@[simp] theorem rom_x59 (c : Config) : rom c 0x59#8 = ⟨.eor, .aby, 4⟩ := rfl
@[simp] theorem rom_x5D (c : Config) : rom c 0x5D#8 = ⟨.eor, .abx, 4⟩ := rfl
@[simp] theorem rom_x5E (c : Config) : rom c 0x5E#8 = ⟨.lsr, .abx, 7⟩ := rfl
@[simp] theorem rom_x60 (c : Config) : rom c 0x60#8 = ⟨.rts, .imp, 6⟩ := rfl
@[simp] theorem rom_x61 (c : Config) : rom c 0x61#8 = ⟨.adc, .izx, 6⟩ := rfl
@[simp] theorem rom_x65 (c : Config) : rom c 0x65#8 = ⟨.adc, .zp0, 3⟩ := rfl
@[simp] theorem rom_x66 (c : Config) : rom c 0x66#8 = ⟨.ror, .zp0, 5⟩ := rfl
@[simp] theorem rom_x68 (c : Config) : rom c 0x68#8 = ⟨.pla, .imp, 4⟩ := rfl
@[simp] theorem rom_x69 (c : Config) : rom c 0x69#8 = ⟨.adc, .imm, 2⟩ := rfl
@[simp] theorem rom_x6A (c : Config) : rom c 0x6A#8 = ⟨.ror, .imp, 2⟩ := rfl
@[simp] theorem rom_x6C (c : Config) : rom c 0x6C#8 = ⟨.jmp, .ind, 5⟩ := rfl
@[simp] theorem rom_x6D (c : Config) : rom c 0x6D#8 = ⟨.adc, .abs, 4⟩ := rfl
@[simp] theorem rom_x6E (c : Config) : rom c 0x6E#8 = ⟨.ror, .abs, 6⟩ := rfl
@[simp] theorem rom_x70 (c : Config) : rom c 0x70#8 = ⟨.bvs, .rel, 2⟩ := rfl
@[simp] theorem rom_x71 (c : Config) : rom c 0x71#8 = ⟨.adc, .izy, 5⟩ := rfl
@[simp] theorem rom_x75 (c : Config) : rom c 0x75#8 = ⟨.adc, .zpx, 4⟩ := rfl
@[simp] theorem rom_x76 (c : Config) : rom c 0x76#8 = ⟨.ror, .zpx, 6⟩ := rfl
@[simp] theorem rom_x78 (c : Config) : rom c 0x78#8 = ⟨.sei, .imp, 2⟩ := rfl
@[simp] theorem rom_x79 (c : Config) : rom c 0x79#8 = ⟨.adc, .aby, 4⟩ := rfl
@[simp] theorem rom_x7D (c : Config) : rom c 0x7D#8 = ⟨.adc, .abx, 4⟩ := rfl
@[simp] theorem rom_x7E (c : Config) : rom c 0x7E#8 = ⟨.ror, .abx, 7⟩ := rfl
@[simp] theorem rom_x81 (c : Config) : rom c 0x81#8 = ⟨.sta, .izx, 6⟩ := rfl
@[simp] theorem rom_x84 (c : Config) : rom c 0x84#8 = ⟨.sty, .zp0, 3⟩ := rfl
@[simp] theorem rom_x85 (c : Config) : rom c 0x85#8 = ⟨.sta, .zp0, 3⟩ := rfl
@[simp] theorem rom_x86 (c : Config) : rom c 0x86#8 = ⟨.stx, .zp0, 3⟩ := rfl
@[simp] theorem rom_x88 (c : Config) : rom c 0x88#8 = ⟨.dey, .imp, 2⟩ := rfl
@[simp] theorem rom_x8A (c : Config) : rom c 0x8A#8 = ⟨.txa, .imp, 2⟩ := rfl
@[simp] theorem rom_x8C (c : Config) : rom c 0x8C#8 = ⟨.sty, .abs, 4⟩ := rfl
@[simp] theorem rom_x8D (c : Config) : rom c 0x8D#8 = ⟨.sta, .abs, 4⟩ := rfl
@[simp] theorem rom_x8E (c : Config) : rom c 0x8E#8 = ⟨.stx, .abs, 4⟩ := rfl
@[simp] theorem rom_x90 (c : Config) : rom c 0x90#8 = ⟨.bcc, .rel, 2⟩ := rfl
@[simp] theorem rom_x91 (c : Config) : rom c 0x91#8 = ⟨.sta, .izy, 6⟩ := rfl
@[simp] theorem rom_x94 (c : Config) : rom c 0x94#8 = ⟨.sty, .zpx, 4⟩ := rfl
@[simp] theorem rom_x95 (c : Config) : rom c 0x95#8 = ⟨.sta, .zpx, 4⟩ := rfl
@[simp] theorem rom_x96 (c : Config) : rom c 0x96#8 = ⟨.stx, .zpy, 4⟩ := rfl
@[simp] theorem rom_x98 (c : Config) : rom c 0x98#8 = ⟨.tya, .imp, 2⟩ := rfl
@[simp] theorem rom_x99 (c : Config) : rom c 0x99#8 = ⟨.sta, .aby, 5⟩ := rfl
@[simp] theorem rom_x9A (c : Config) : rom c 0x9A#8 = ⟨.txs, .imp, 2⟩ := rfl
@[simp] theorem rom_x9D (c : Config) : rom c 0x9D#8 = ⟨.sta, .abx, 5⟩ := rfl
@[simp] theorem rom_xA0 (c : Config) : rom c 0xA0#8 = ⟨.ldy, .imm, 2⟩ := rfl
@[simp] theorem rom_xA1 (c : Config) : rom c 0xA1#8 = ⟨.lda, .izx, 6⟩ := rfl
@[simp] theorem rom_xA2 (c : Config) : rom c 0xA2#8 = ⟨.ldx, .imm, 2⟩ := rfl
@[simp] theorem rom_xA4 (c : Config) : rom c 0xA4#8 = ⟨.ldy, .zp0, 3⟩ := rfl
@[simp] theorem rom_xA5 (c : Config) : rom c 0xA5#8 = ⟨.lda, .zp0, 3⟩ := rfl
@[simp] theorem rom_xA6 (c : Config) : rom c 0xA6#8 = ⟨.ldx, .zp0, 3⟩ := rfl
@[simp] theorem rom_xA8 (c : Config) : rom c 0xA8#8 = ⟨.tay, .imp, 2⟩ := rfl
@[simp] theorem rom_xA9 (c : Config) : rom c 0xA9#8 = ⟨.lda, .imm, 2⟩ := rfl
@[simp] theorem rom_xAA (c : Config) : rom c 0xAA#8 = ⟨.tax, .imp, 2⟩ := rfl
@[simp] theorem rom_xAC (c : Config) : rom c 0xAC#8 = ⟨.ldy, .abs, 4⟩ := rfl
@[simp] theorem rom_xAD (c : Config) : rom c 0xAD#8 = ⟨.lda, .abs, 4⟩ := rfl
@[simp] theorem rom_xAE (c : Config) : rom c 0xAE#8 = ⟨.ldx, .abs, 4⟩ := rfl
@[simp] theorem rom_xB0 (c : Config) : rom c 0xB0#8 = ⟨.bcs, .rel, 2⟩ := rfl
@[simp] theorem rom_xB1 (c : Config) : rom c 0xB1#8 = ⟨.lda, .izy, 5⟩ := rfl
@[simp] theorem rom_xB4 (c : Config) : rom c 0xB4#8 = ⟨.ldy, .zpx, 4⟩ := rfl
@[simp] theorem rom_xB5 (c : Config) : rom c 0xB5#8 = ⟨.lda, .zpx, 4⟩ := rfl
@[simp] theorem rom_xB6 (c : Config) : rom c 0xB6#8 = ⟨.ldx, .zpy, 4⟩ := rfl
@[simp] theorem rom_xB8 (c : Config) : rom c 0xB8#8 = ⟨.clv, .imp, 2⟩ := rfl
@[simp] theorem rom_xB9 (c : Config) : rom c 0xB9#8 = ⟨.lda, .aby, 4⟩ := rfl
@[simp] theorem rom_xBA (c : Config) : rom c 0xBA#8 = ⟨.tsx, .imp, 2⟩ := rfl
@[simp] theorem rom_xBC (c : Config) : rom c 0xBC#8 = ⟨.ldy, .abx, 4⟩ := rfl
@[simp] theorem rom_xBD (c : Config) : rom c 0xBD#8 = ⟨.lda, .abx, 4⟩ := rfl
@[simp] theorem rom_xBE (c : Config) : rom c 0xBE#8 = ⟨.ldx, .aby, 4⟩ := rfl
@[simp] theorem rom_xC0 (c : Config) : rom c 0xC0#8 = ⟨.cpy, .imm, 2⟩ := rfl
@[simp] theorem rom_xC1 (c : Config) : rom c 0xC1#8 = ⟨.cmp, .izx, 6⟩ := rfl
@[simp] theorem rom_xC4 (c : Config) : rom c 0xC4#8 = ⟨.cpy, .zp0, 3⟩ := rfl
@[simp] theorem rom_xC5 (c : Config) : rom c 0xC5#8 = ⟨.cmp, .zp0, 3⟩ := rfl
@[simp] theorem rom_xC6 (c : Config) : rom c 0xC6#8 = ⟨.dec, .zp0, 5⟩ := rfl
@[simp] theorem rom_xC8 (c : Config) : rom c 0xC8#8 = ⟨.iny, .imp, 2⟩ := rfl
@[simp] theorem rom_xC9 (c : Config) : rom c 0xC9#8 = ⟨.cmp, .imm, 2⟩ := rfl
@[simp] theorem rom_xCA (c : Config) : rom c 0xCA#8 = ⟨.dex, .imp, 2⟩ := rfl
@[simp] theorem rom_xCC (c : Config) : rom c 0xCC#8 = ⟨.cpy, .abs, 4⟩ := rfl
@[simp] theorem rom_xCD (c : Config) : rom c 0xCD#8 = ⟨.cmp, .abs, 4⟩ := rfl
@[simp] theorem rom_xCE (c : Config) : rom c 0xCE#8 = ⟨.dec, .abs, 6⟩ := rfl
@[simp] theorem rom_xD0 (c : Config) : rom c 0xD0#8 = ⟨.bne, .rel, 2⟩ := rfl
@[simp] theorem rom_xD1 (c : Config) : rom c 0xD1#8 = ⟨.cmp, .izy, 5⟩ := rfl
@[simp] theorem rom_xD5 (c : Config) : rom c 0xD5#8 = ⟨.cmp, .zpx, 4⟩ := rfl
@[simp] theorem rom_xD6 (c : Config) : rom c 0xD6#8 = ⟨.dec, .zpx, 6⟩ := rfl
@[simp] theorem rom_xD8 (c : Config) : rom c 0xD8#8 = ⟨.cld, .imp, 2⟩ := rfl
@[simp] theorem rom_xD9 (c : Config) : rom c 0xD9#8 = ⟨.cmp, .aby, 4⟩ := rfl
@[simp] theorem rom_xDD (c : Config) : rom c 0xDD#8 = ⟨.cmp, .abx, 4⟩ := rfl
@[simp] theorem rom_xDE (c : Config) : rom c 0xDE#8 = ⟨.dec, .abx, 7⟩ := rfl
@[simp] theorem rom_xE0 (c : Config) : rom c 0xE0#8 = ⟨.cpx, .imm, 2⟩ := rfl
@[simp] theorem rom_xE1 (c : Config) : rom c 0xE1#8 = ⟨.sbc, .izx, 6⟩ := rfl
@[simp] theorem rom_xE4 (c : Config) : rom c 0xE4#8 = ⟨.cpx, .zp0, 3⟩ := rfl
@[simp] theorem rom_xE5 (c : Config) : rom c 0xE5#8 = ⟨.sbc, .zp0, 3⟩ := rfl
@[simp] theorem rom_xE6 (c : Config) : rom c 0xE6#8 = ⟨.inc, .zp0, 5⟩ := rfl
@[simp] theorem rom_xE8 (c : Config) : rom c 0xE8#8 = ⟨.inx, .imp, 2⟩ := rfl
@[simp] theorem rom_xE9 (c : Config) : rom c 0xE9#8 = ⟨.sbc, .imm, 2⟩ := rfl
@[simp] theorem rom_xEA (c : Config) : rom c 0xEA#8 = ⟨.nop, .imp, 2⟩ := rfl
@[simp] theorem rom_xEC (c : Config) : rom c 0xEC#8 = ⟨.cpx, .abs, 4⟩ := rfl
@[simp] theorem rom_xED (c : Config) : rom c 0xED#8 = ⟨.sbc, .abs, 4⟩ := rfl
@[simp] theorem rom_xEE (c : Config) : rom c 0xEE#8 = ⟨.inc, .abs, 6⟩ := rfl
@[simp] theorem rom_xF0 (c : Config) : rom c 0xF0#8 = ⟨.beq, .rel, 2⟩ := rfl
@[simp] theorem rom_xF1 (c : Config) : rom c 0xF1#8 = ⟨.sbc, .izy, 5⟩ := rfl
@[simp] theorem rom_xF5 (c : Config) : rom c 0xF5#8 = ⟨.sbc, .zpx, 4⟩ := rfl
@[simp] theorem rom_xF6 (c : Config) : rom c 0xF6#8 = ⟨.inc, .zpx, 6⟩ := rfl
@[simp] theorem rom_xF8 (c : Config) : rom c 0xF8#8 = ⟨.sed, .imp, 2⟩ := rfl
@[simp] theorem rom_xF9 (c : Config) : rom c 0xF9#8 = ⟨.sbc, .aby, 4⟩ := rfl
@[simp] theorem rom_xFD (c : Config) : rom c 0xFD#8 = ⟨.sbc, .abx, 4⟩ := rfl
@[simp] theorem rom_xFE (c : Config) : rom c 0xFE#8 = ⟨.inc, .abx, 7⟩ := rfl

/-! ### The instruction of each assigned byte, with its two following bytes (R81, R88) -/

@[simp] theorem decodeBytes_x00 (b1 b2 : Byte) : decodeBytes 0x00#8 b1 b2 = .brk := rfl
@[simp] theorem decodeBytes_x01 (b1 b2 : Byte) : decodeBytes 0x01#8 b1 b2 = .oraIzx b1 := rfl
@[simp] theorem decodeBytes_x05 (b1 b2 : Byte) : decodeBytes 0x05#8 b1 b2 = .oraZp0 b1 := rfl
@[simp] theorem decodeBytes_x06 (b1 b2 : Byte) : decodeBytes 0x06#8 b1 b2 = .aslZp0 b1 := rfl
@[simp] theorem decodeBytes_x08 (b1 b2 : Byte) : decodeBytes 0x08#8 b1 b2 = .php := rfl
@[simp] theorem decodeBytes_x09 (b1 b2 : Byte) : decodeBytes 0x09#8 b1 b2 = .oraImm b1 := rfl
@[simp] theorem decodeBytes_x0A (b1 b2 : Byte) : decodeBytes 0x0A#8 b1 b2 = .aslImp := rfl
@[simp] theorem decodeBytes_x0D (b1 b2 : Byte) : decodeBytes 0x0D#8 b1 b2 = .oraAbs (Machine.join b2 b1) := rfl
@[simp] theorem decodeBytes_x0E (b1 b2 : Byte) : decodeBytes 0x0E#8 b1 b2 = .aslAbs (Machine.join b2 b1) := rfl
@[simp] theorem decodeBytes_x10 (b1 b2 : Byte) : decodeBytes 0x10#8 b1 b2 = .bpl b1 := rfl
@[simp] theorem decodeBytes_x11 (b1 b2 : Byte) : decodeBytes 0x11#8 b1 b2 = .oraIzy b1 := rfl
@[simp] theorem decodeBytes_x15 (b1 b2 : Byte) : decodeBytes 0x15#8 b1 b2 = .oraZpx b1 := rfl
@[simp] theorem decodeBytes_x16 (b1 b2 : Byte) : decodeBytes 0x16#8 b1 b2 = .aslZpx b1 := rfl
@[simp] theorem decodeBytes_x18 (b1 b2 : Byte) : decodeBytes 0x18#8 b1 b2 = .clc := rfl
@[simp] theorem decodeBytes_x19 (b1 b2 : Byte) : decodeBytes 0x19#8 b1 b2 = .oraAby (Machine.join b2 b1) := rfl
@[simp] theorem decodeBytes_x1D (b1 b2 : Byte) : decodeBytes 0x1D#8 b1 b2 = .oraAbx (Machine.join b2 b1) := rfl
@[simp] theorem decodeBytes_x1E (b1 b2 : Byte) : decodeBytes 0x1E#8 b1 b2 = .aslAbx (Machine.join b2 b1) := rfl
@[simp] theorem decodeBytes_x20 (b1 b2 : Byte) : decodeBytes 0x20#8 b1 b2 = .jsr (Machine.join b2 b1) := rfl
@[simp] theorem decodeBytes_x21 (b1 b2 : Byte) : decodeBytes 0x21#8 b1 b2 = .andIzx b1 := rfl
@[simp] theorem decodeBytes_x24 (b1 b2 : Byte) : decodeBytes 0x24#8 b1 b2 = .bitZp0 b1 := rfl
@[simp] theorem decodeBytes_x25 (b1 b2 : Byte) : decodeBytes 0x25#8 b1 b2 = .andZp0 b1 := rfl
@[simp] theorem decodeBytes_x26 (b1 b2 : Byte) : decodeBytes 0x26#8 b1 b2 = .rolZp0 b1 := rfl
@[simp] theorem decodeBytes_x28 (b1 b2 : Byte) : decodeBytes 0x28#8 b1 b2 = .plp := rfl
@[simp] theorem decodeBytes_x29 (b1 b2 : Byte) : decodeBytes 0x29#8 b1 b2 = .andImm b1 := rfl
@[simp] theorem decodeBytes_x2A (b1 b2 : Byte) : decodeBytes 0x2A#8 b1 b2 = .rolImp := rfl
@[simp] theorem decodeBytes_x2C (b1 b2 : Byte) : decodeBytes 0x2C#8 b1 b2 = .bitAbs (Machine.join b2 b1) := rfl
@[simp] theorem decodeBytes_x2D (b1 b2 : Byte) : decodeBytes 0x2D#8 b1 b2 = .andAbs (Machine.join b2 b1) := rfl
@[simp] theorem decodeBytes_x2E (b1 b2 : Byte) : decodeBytes 0x2E#8 b1 b2 = .rolAbs (Machine.join b2 b1) := rfl
@[simp] theorem decodeBytes_x30 (b1 b2 : Byte) : decodeBytes 0x30#8 b1 b2 = .bmi b1 := rfl
@[simp] theorem decodeBytes_x31 (b1 b2 : Byte) : decodeBytes 0x31#8 b1 b2 = .andIzy b1 := rfl
@[simp] theorem decodeBytes_x35 (b1 b2 : Byte) : decodeBytes 0x35#8 b1 b2 = .andZpx b1 := rfl
@[simp] theorem decodeBytes_x36 (b1 b2 : Byte) : decodeBytes 0x36#8 b1 b2 = .rolZpx b1 := rfl
@[simp] theorem decodeBytes_x38 (b1 b2 : Byte) : decodeBytes 0x38#8 b1 b2 = .sec := rfl
@[simp] theorem decodeBytes_x39 (b1 b2 : Byte) : decodeBytes 0x39#8 b1 b2 = .andAby (Machine.join b2 b1) := rfl
@[simp] theorem decodeBytes_x3D (b1 b2 : Byte) : decodeBytes 0x3D#8 b1 b2 = .andAbx (Machine.join b2 b1) := rfl
@[simp] theorem decodeBytes_x3E (b1 b2 : Byte) : decodeBytes 0x3E#8 b1 b2 = .rolAbx (Machine.join b2 b1) := rfl
@[simp] theorem decodeBytes_x40 (b1 b2 : Byte) : decodeBytes 0x40#8 b1 b2 = .rti := rfl
@[simp] theorem decodeBytes_x41 (b1 b2 : Byte) : decodeBytes 0x41#8 b1 b2 = .eorIzx b1 := rfl
@[simp] theorem decodeBytes_x45 (b1 b2 : Byte) : decodeBytes 0x45#8 b1 b2 = .eorZp0 b1 := rfl
@[simp] theorem decodeBytes_x46 (b1 b2 : Byte) : decodeBytes 0x46#8 b1 b2 = .lsrZp0 b1 := rfl
@[simp] theorem decodeBytes_x48 (b1 b2 : Byte) : decodeBytes 0x48#8 b1 b2 = .pha := rfl
@[simp] theorem decodeBytes_x49 (b1 b2 : Byte) : decodeBytes 0x49#8 b1 b2 = .eorImm b1 := rfl
@[simp] theorem decodeBytes_x4A (b1 b2 : Byte) : decodeBytes 0x4A#8 b1 b2 = .lsrImp := rfl
@[simp] theorem decodeBytes_x4C (b1 b2 : Byte) : decodeBytes 0x4C#8 b1 b2 = .jmpAbs (Machine.join b2 b1) := rfl
@[simp] theorem decodeBytes_x4D (b1 b2 : Byte) : decodeBytes 0x4D#8 b1 b2 = .eorAbs (Machine.join b2 b1) := rfl
@[simp] theorem decodeBytes_x4E (b1 b2 : Byte) : decodeBytes 0x4E#8 b1 b2 = .lsrAbs (Machine.join b2 b1) := rfl
@[simp] theorem decodeBytes_x50 (b1 b2 : Byte) : decodeBytes 0x50#8 b1 b2 = .bvc b1 := rfl
@[simp] theorem decodeBytes_x51 (b1 b2 : Byte) : decodeBytes 0x51#8 b1 b2 = .eorIzy b1 := rfl
@[simp] theorem decodeBytes_x55 (b1 b2 : Byte) : decodeBytes 0x55#8 b1 b2 = .eorZpx b1 := rfl
@[simp] theorem decodeBytes_x56 (b1 b2 : Byte) : decodeBytes 0x56#8 b1 b2 = .lsrZpx b1 := rfl
@[simp] theorem decodeBytes_x58 (b1 b2 : Byte) : decodeBytes 0x58#8 b1 b2 = .cli := rfl
@[simp] theorem decodeBytes_x59 (b1 b2 : Byte) : decodeBytes 0x59#8 b1 b2 = .eorAby (Machine.join b2 b1) := rfl
@[simp] theorem decodeBytes_x5D (b1 b2 : Byte) : decodeBytes 0x5D#8 b1 b2 = .eorAbx (Machine.join b2 b1) := rfl
@[simp] theorem decodeBytes_x5E (b1 b2 : Byte) : decodeBytes 0x5E#8 b1 b2 = .lsrAbx (Machine.join b2 b1) := rfl
@[simp] theorem decodeBytes_x60 (b1 b2 : Byte) : decodeBytes 0x60#8 b1 b2 = .rts := rfl
@[simp] theorem decodeBytes_x61 (b1 b2 : Byte) : decodeBytes 0x61#8 b1 b2 = .adcIzx b1 := rfl
@[simp] theorem decodeBytes_x65 (b1 b2 : Byte) : decodeBytes 0x65#8 b1 b2 = .adcZp0 b1 := rfl
@[simp] theorem decodeBytes_x66 (b1 b2 : Byte) : decodeBytes 0x66#8 b1 b2 = .rorZp0 b1 := rfl
@[simp] theorem decodeBytes_x68 (b1 b2 : Byte) : decodeBytes 0x68#8 b1 b2 = .pla := rfl
@[simp] theorem decodeBytes_x69 (b1 b2 : Byte) : decodeBytes 0x69#8 b1 b2 = .adcImm b1 := rfl
@[simp] theorem decodeBytes_x6A (b1 b2 : Byte) : decodeBytes 0x6A#8 b1 b2 = .rorImp := rfl
@[simp] theorem decodeBytes_x6C (b1 b2 : Byte) : decodeBytes 0x6C#8 b1 b2 = .jmpInd (Machine.join b2 b1) := rfl
@[simp] theorem decodeBytes_x6D (b1 b2 : Byte) : decodeBytes 0x6D#8 b1 b2 = .adcAbs (Machine.join b2 b1) := rfl
@[simp] theorem decodeBytes_x6E (b1 b2 : Byte) : decodeBytes 0x6E#8 b1 b2 = .rorAbs (Machine.join b2 b1) := rfl
@[simp] theorem decodeBytes_x70 (b1 b2 : Byte) : decodeBytes 0x70#8 b1 b2 = .bvs b1 := rfl
@[simp] theorem decodeBytes_x71 (b1 b2 : Byte) : decodeBytes 0x71#8 b1 b2 = .adcIzy b1 := rfl
@[simp] theorem decodeBytes_x75 (b1 b2 : Byte) : decodeBytes 0x75#8 b1 b2 = .adcZpx b1 := rfl
@[simp] theorem decodeBytes_x76 (b1 b2 : Byte) : decodeBytes 0x76#8 b1 b2 = .rorZpx b1 := rfl
@[simp] theorem decodeBytes_x78 (b1 b2 : Byte) : decodeBytes 0x78#8 b1 b2 = .sei := rfl
@[simp] theorem decodeBytes_x79 (b1 b2 : Byte) : decodeBytes 0x79#8 b1 b2 = .adcAby (Machine.join b2 b1) := rfl
@[simp] theorem decodeBytes_x7D (b1 b2 : Byte) : decodeBytes 0x7D#8 b1 b2 = .adcAbx (Machine.join b2 b1) := rfl
@[simp] theorem decodeBytes_x7E (b1 b2 : Byte) : decodeBytes 0x7E#8 b1 b2 = .rorAbx (Machine.join b2 b1) := rfl
@[simp] theorem decodeBytes_x81 (b1 b2 : Byte) : decodeBytes 0x81#8 b1 b2 = .staIzx b1 := rfl
@[simp] theorem decodeBytes_x84 (b1 b2 : Byte) : decodeBytes 0x84#8 b1 b2 = .styZp0 b1 := rfl
@[simp] theorem decodeBytes_x85 (b1 b2 : Byte) : decodeBytes 0x85#8 b1 b2 = .staZp0 b1 := rfl
@[simp] theorem decodeBytes_x86 (b1 b2 : Byte) : decodeBytes 0x86#8 b1 b2 = .stxZp0 b1 := rfl
@[simp] theorem decodeBytes_x88 (b1 b2 : Byte) : decodeBytes 0x88#8 b1 b2 = .dey := rfl
@[simp] theorem decodeBytes_x8A (b1 b2 : Byte) : decodeBytes 0x8A#8 b1 b2 = .txa := rfl
@[simp] theorem decodeBytes_x8C (b1 b2 : Byte) : decodeBytes 0x8C#8 b1 b2 = .styAbs (Machine.join b2 b1) := rfl
@[simp] theorem decodeBytes_x8D (b1 b2 : Byte) : decodeBytes 0x8D#8 b1 b2 = .staAbs (Machine.join b2 b1) := rfl
@[simp] theorem decodeBytes_x8E (b1 b2 : Byte) : decodeBytes 0x8E#8 b1 b2 = .stxAbs (Machine.join b2 b1) := rfl
@[simp] theorem decodeBytes_x90 (b1 b2 : Byte) : decodeBytes 0x90#8 b1 b2 = .bcc b1 := rfl
@[simp] theorem decodeBytes_x91 (b1 b2 : Byte) : decodeBytes 0x91#8 b1 b2 = .staIzy b1 := rfl
@[simp] theorem decodeBytes_x94 (b1 b2 : Byte) : decodeBytes 0x94#8 b1 b2 = .styZpx b1 := rfl
@[simp] theorem decodeBytes_x95 (b1 b2 : Byte) : decodeBytes 0x95#8 b1 b2 = .staZpx b1 := rfl
@[simp] theorem decodeBytes_x96 (b1 b2 : Byte) : decodeBytes 0x96#8 b1 b2 = .stxZpy b1 := rfl
@[simp] theorem decodeBytes_x98 (b1 b2 : Byte) : decodeBytes 0x98#8 b1 b2 = .tya := rfl
@[simp] theorem decodeBytes_x99 (b1 b2 : Byte) : decodeBytes 0x99#8 b1 b2 = .staAby (Machine.join b2 b1) := rfl
@[simp] theorem decodeBytes_x9A (b1 b2 : Byte) : decodeBytes 0x9A#8 b1 b2 = .txs := rfl
@[simp] theorem decodeBytes_x9D (b1 b2 : Byte) : decodeBytes 0x9D#8 b1 b2 = .staAbx (Machine.join b2 b1) := rfl
@[simp] theorem decodeBytes_xA0 (b1 b2 : Byte) : decodeBytes 0xA0#8 b1 b2 = .ldyImm b1 := rfl
@[simp] theorem decodeBytes_xA1 (b1 b2 : Byte) : decodeBytes 0xA1#8 b1 b2 = .ldaIzx b1 := rfl
@[simp] theorem decodeBytes_xA2 (b1 b2 : Byte) : decodeBytes 0xA2#8 b1 b2 = .ldxImm b1 := rfl
@[simp] theorem decodeBytes_xA4 (b1 b2 : Byte) : decodeBytes 0xA4#8 b1 b2 = .ldyZp0 b1 := rfl
@[simp] theorem decodeBytes_xA5 (b1 b2 : Byte) : decodeBytes 0xA5#8 b1 b2 = .ldaZp0 b1 := rfl
@[simp] theorem decodeBytes_xA6 (b1 b2 : Byte) : decodeBytes 0xA6#8 b1 b2 = .ldxZp0 b1 := rfl
@[simp] theorem decodeBytes_xA8 (b1 b2 : Byte) : decodeBytes 0xA8#8 b1 b2 = .tay := rfl
@[simp] theorem decodeBytes_xA9 (b1 b2 : Byte) : decodeBytes 0xA9#8 b1 b2 = .ldaImm b1 := rfl
@[simp] theorem decodeBytes_xAA (b1 b2 : Byte) : decodeBytes 0xAA#8 b1 b2 = .tax := rfl
@[simp] theorem decodeBytes_xAC (b1 b2 : Byte) : decodeBytes 0xAC#8 b1 b2 = .ldyAbs (Machine.join b2 b1) := rfl
@[simp] theorem decodeBytes_xAD (b1 b2 : Byte) : decodeBytes 0xAD#8 b1 b2 = .ldaAbs (Machine.join b2 b1) := rfl
@[simp] theorem decodeBytes_xAE (b1 b2 : Byte) : decodeBytes 0xAE#8 b1 b2 = .ldxAbs (Machine.join b2 b1) := rfl
@[simp] theorem decodeBytes_xB0 (b1 b2 : Byte) : decodeBytes 0xB0#8 b1 b2 = .bcs b1 := rfl
@[simp] theorem decodeBytes_xB1 (b1 b2 : Byte) : decodeBytes 0xB1#8 b1 b2 = .ldaIzy b1 := rfl
@[simp] theorem decodeBytes_xB4 (b1 b2 : Byte) : decodeBytes 0xB4#8 b1 b2 = .ldyZpx b1 := rfl
@[simp] theorem decodeBytes_xB5 (b1 b2 : Byte) : decodeBytes 0xB5#8 b1 b2 = .ldaZpx b1 := rfl
@[simp] theorem decodeBytes_xB6 (b1 b2 : Byte) : decodeBytes 0xB6#8 b1 b2 = .ldxZpy b1 := rfl
@[simp] theorem decodeBytes_xB8 (b1 b2 : Byte) : decodeBytes 0xB8#8 b1 b2 = .clv := rfl
@[simp] theorem decodeBytes_xB9 (b1 b2 : Byte) : decodeBytes 0xB9#8 b1 b2 = .ldaAby (Machine.join b2 b1) := rfl
@[simp] theorem decodeBytes_xBA (b1 b2 : Byte) : decodeBytes 0xBA#8 b1 b2 = .tsx := rfl
@[simp] theorem decodeBytes_xBC (b1 b2 : Byte) : decodeBytes 0xBC#8 b1 b2 = .ldyAbx (Machine.join b2 b1) := rfl
@[simp] theorem decodeBytes_xBD (b1 b2 : Byte) : decodeBytes 0xBD#8 b1 b2 = .ldaAbx (Machine.join b2 b1) := rfl
@[simp] theorem decodeBytes_xBE (b1 b2 : Byte) : decodeBytes 0xBE#8 b1 b2 = .ldxAby (Machine.join b2 b1) := rfl
@[simp] theorem decodeBytes_xC0 (b1 b2 : Byte) : decodeBytes 0xC0#8 b1 b2 = .cpyImm b1 := rfl
@[simp] theorem decodeBytes_xC1 (b1 b2 : Byte) : decodeBytes 0xC1#8 b1 b2 = .cmpIzx b1 := rfl
@[simp] theorem decodeBytes_xC4 (b1 b2 : Byte) : decodeBytes 0xC4#8 b1 b2 = .cpyZp0 b1 := rfl
@[simp] theorem decodeBytes_xC5 (b1 b2 : Byte) : decodeBytes 0xC5#8 b1 b2 = .cmpZp0 b1 := rfl
@[simp] theorem decodeBytes_xC6 (b1 b2 : Byte) : decodeBytes 0xC6#8 b1 b2 = .decZp0 b1 := rfl
@[simp] theorem decodeBytes_xC8 (b1 b2 : Byte) : decodeBytes 0xC8#8 b1 b2 = .iny := rfl
@[simp] theorem decodeBytes_xC9 (b1 b2 : Byte) : decodeBytes 0xC9#8 b1 b2 = .cmpImm b1 := rfl
@[simp] theorem decodeBytes_xCA (b1 b2 : Byte) : decodeBytes 0xCA#8 b1 b2 = .dex := rfl
@[simp] theorem decodeBytes_xCC (b1 b2 : Byte) : decodeBytes 0xCC#8 b1 b2 = .cpyAbs (Machine.join b2 b1) := rfl
@[simp] theorem decodeBytes_xCD (b1 b2 : Byte) : decodeBytes 0xCD#8 b1 b2 = .cmpAbs (Machine.join b2 b1) := rfl
@[simp] theorem decodeBytes_xCE (b1 b2 : Byte) : decodeBytes 0xCE#8 b1 b2 = .decAbs (Machine.join b2 b1) := rfl
@[simp] theorem decodeBytes_xD0 (b1 b2 : Byte) : decodeBytes 0xD0#8 b1 b2 = .bne b1 := rfl
@[simp] theorem decodeBytes_xD1 (b1 b2 : Byte) : decodeBytes 0xD1#8 b1 b2 = .cmpIzy b1 := rfl
@[simp] theorem decodeBytes_xD5 (b1 b2 : Byte) : decodeBytes 0xD5#8 b1 b2 = .cmpZpx b1 := rfl
@[simp] theorem decodeBytes_xD6 (b1 b2 : Byte) : decodeBytes 0xD6#8 b1 b2 = .decZpx b1 := rfl
@[simp] theorem decodeBytes_xD8 (b1 b2 : Byte) : decodeBytes 0xD8#8 b1 b2 = .cld := rfl
@[simp] theorem decodeBytes_xD9 (b1 b2 : Byte) : decodeBytes 0xD9#8 b1 b2 = .cmpAby (Machine.join b2 b1) := rfl
@[simp] theorem decodeBytes_xDD (b1 b2 : Byte) : decodeBytes 0xDD#8 b1 b2 = .cmpAbx (Machine.join b2 b1) := rfl
@[simp] theorem decodeBytes_xDE (b1 b2 : Byte) : decodeBytes 0xDE#8 b1 b2 = .decAbx (Machine.join b2 b1) := rfl
@[simp] theorem decodeBytes_xE0 (b1 b2 : Byte) : decodeBytes 0xE0#8 b1 b2 = .cpxImm b1 := rfl
@[simp] theorem decodeBytes_xE1 (b1 b2 : Byte) : decodeBytes 0xE1#8 b1 b2 = .sbcIzx b1 := rfl
@[simp] theorem decodeBytes_xE4 (b1 b2 : Byte) : decodeBytes 0xE4#8 b1 b2 = .cpxZp0 b1 := rfl
@[simp] theorem decodeBytes_xE5 (b1 b2 : Byte) : decodeBytes 0xE5#8 b1 b2 = .sbcZp0 b1 := rfl
@[simp] theorem decodeBytes_xE6 (b1 b2 : Byte) : decodeBytes 0xE6#8 b1 b2 = .incZp0 b1 := rfl
@[simp] theorem decodeBytes_xE8 (b1 b2 : Byte) : decodeBytes 0xE8#8 b1 b2 = .inx := rfl
@[simp] theorem decodeBytes_xE9 (b1 b2 : Byte) : decodeBytes 0xE9#8 b1 b2 = .sbcImm b1 := rfl
@[simp] theorem decodeBytes_xEA (b1 b2 : Byte) : decodeBytes 0xEA#8 b1 b2 = .nop := rfl
@[simp] theorem decodeBytes_xEC (b1 b2 : Byte) : decodeBytes 0xEC#8 b1 b2 = .cpxAbs (Machine.join b2 b1) := rfl
@[simp] theorem decodeBytes_xED (b1 b2 : Byte) : decodeBytes 0xED#8 b1 b2 = .sbcAbs (Machine.join b2 b1) := rfl
@[simp] theorem decodeBytes_xEE (b1 b2 : Byte) : decodeBytes 0xEE#8 b1 b2 = .incAbs (Machine.join b2 b1) := rfl
@[simp] theorem decodeBytes_xF0 (b1 b2 : Byte) : decodeBytes 0xF0#8 b1 b2 = .beq b1 := rfl
@[simp] theorem decodeBytes_xF1 (b1 b2 : Byte) : decodeBytes 0xF1#8 b1 b2 = .sbcIzy b1 := rfl
@[simp] theorem decodeBytes_xF5 (b1 b2 : Byte) : decodeBytes 0xF5#8 b1 b2 = .sbcZpx b1 := rfl
@[simp] theorem decodeBytes_xF6 (b1 b2 : Byte) : decodeBytes 0xF6#8 b1 b2 = .incZpx b1 := rfl
@[simp] theorem decodeBytes_xF8 (b1 b2 : Byte) : decodeBytes 0xF8#8 b1 b2 = .sed := rfl
@[simp] theorem decodeBytes_xF9 (b1 b2 : Byte) : decodeBytes 0xF9#8 b1 b2 = .sbcAby (Machine.join b2 b1) := rfl
@[simp] theorem decodeBytes_xFD (b1 b2 : Byte) : decodeBytes 0xFD#8 b1 b2 = .sbcAbx (Machine.join b2 b1) := rfl
@[simp] theorem decodeBytes_xFE (b1 b2 : Byte) : decodeBytes 0xFE#8 b1 b2 = .incAbx (Machine.join b2 b1) := rfl

/-! ### The other bytes -/

/-- An unassigned byte has no cell in the matrix (R89). -/
theorem matrixCell_unassigned : ∀ b ∈ unassignedOpcodes, matrixCell b = none := by decide

/-- A byte with no cell in the matrix is one of R89's list. -/
theorem unassigned_of_matrixCell (b : Byte) (h : matrixCell b = none) : b ∈ unassignedOpcodes := by
  revert b
  decide +kernel

/-- The placeholder entry (R89). -/
theorem rom_unassigned (c : Config) {b : Byte} (h : b ∈ unassignedOpcodes) :
    rom c b = ⟨.xxx, .imp, c.unimplCycles⟩ := by
  simp [rom, matrixCell_unassigned b h]

/-- The placeholder instruction (R89). -/
theorem decodeBytes_unassigned {b : Byte} (h : b ∈ unassignedOpcodes) (b1 b2 : Byte) :
    decodeBytes b b1 b2 = .unimplemented b := by
  simp [decodeBytes, matrixCell_unassigned b h]

/-- The mode that fixes an opcode byte's length is the ROM entry's (R80, R85). -/
theorem modeOf_eq_rom (c : Config) (b : Byte) : modeOf b = (rom c b).mode := by
  unfold modeOf rom
  cases matrixCell b <;> rfl

/-- Decoding a byte string that holds all operand bytes is decoding its first three bytes (R80). -/
theorem decode_cons (b : Byte) (rest : List Byte) (h : (modeOf b).operandBytes ≤ rest.length) :
    decode (b :: rest) =
      .instr (decodeBytes b (rest.getD 0 0) (rest.getD 1 0)) (rest.drop (modeOf b).operandBytes) := by
  simp [decode, Nat.not_lt.2 h]

/-- What the decoder reads from three bytes: a well-formed instruction with that opcode byte, the
operation and the mode of its ROM entry, and as many operand bytes as the mode takes (R80 to R85). -/
theorem decodeBytes_shape (b b1 b2 : Byte) (c : Config) :
    (decodeBytes b b1 b2).wf = true ∧ (decodeBytes b b1 b2).opcode = b ∧
      (decodeBytes b b1 b2).operand.mode = (rom c b).mode ∧
      (decodeBytes b b1 b2).operand.bytes = [b1, b2].take (rom c b).mode.operandBytes ∧
      (decodeBytes b b1 b2).op = (rom c b).op := by
  by_cases hb : b ∈ unassignedOpcodes
  · rw [decodeBytes_unassigned hb, rom_unassigned c hb]
    exact ⟨by simpa [Instr.wf] using hb, rfl, rfl, rfl, rfl⟩
  · obtain ⟨n, hn, rfl⟩ : ∃ n, n < 256 ∧ b = BitVec.ofNat 8 n := ⟨b.toNat, b.isLt, by simp⟩
    interval_cases n <;>
      first
      | exact absurd (by decide) hb
      | exact ⟨rfl, rfl, rfl, rfl, rfl⟩
      | exact ⟨rfl, rfl, rfl, by simp [Instr.operand, Instr.form, Operand.bytes, Mode.operandBytes], rfl⟩

end Sys2Proof
end

