-- ==== Sys2Proof/Laws/Bus.lean ====
section
/-! SUPPORT. The walk of the disassembler and its peeks, and what a list of bus transactions does and sees
when it is cut in two (spec/30_encoding.md R101, spec/20_memory.md R52, R65). -/

namespace Sys2Proof.Machine

/-! ### The walk -/

theorem walk_past (s : State) (stop fuel c : Nat) (h : stop < c) : walk s stop fuel c = [] := by
  cases fuel with
  | zero => rfl
  | succ n => simp [walk, Nat.not_le.2 h]

theorem walk_line (s : State) (stop fuel c : Nat) (h : c ≤ stop) :
    walk s stop (fuel + 1) c = lineAt s c :: walk s stop fuel (c + 1 + (lineAt s c).mode.operandBytes) := by
  simp [walk, h]

/-- Every line of the walk is the line at some cursor that is not past the end. -/
theorem walk_mem {s : State} {stop : Nat} {l : Line} :
    ∀ {fuel c : Nat}, l ∈ walk s stop fuel c → ∃ c', c' ≤ stop ∧ l = lineAt s c' := by
  intro fuel
  induction fuel with
  | zero => intro c h; simp [walk] at h
  | succ n ih =>
    intro c h
    by_cases hc : c ≤ stop
    · rw [walk_line _ _ _ _ hc] at h
      exact (List.mem_cons.1 h).elim (fun h => ⟨c, hc, h⟩) ih
    · rw [walk_past _ _ _ _ (Nat.lt_of_not_le hc)] at h; simp at h

theorem cursorAddr_add (c k : Nat) : cursorAddr (c + k) = cursorAddr c + BitVec.ofNat 16 k := by
  simp [cursorAddr, BitVec.ofNat_add]

/-- A line shows the instruction that the decoder reads at its address. -/
theorem lineAt_shows (s : State) (c : Nat) :
    Shows (lineAt s c) (fetchInstr { s with pc := (lineAt s c).addr }) := by
  obtain ⟨-, -, hm, hb, ho⟩ := decodeBytes_shape (s.read (cursorAddr c)) (s.read (cursorAddr c + 1))
    (s.read (cursorAddr c + 2)) s.config
  have e : fetchInstr { s with pc := (lineAt s c).addr } =
      decodeBytes (s.read (cursorAddr c)) (s.read (cursorAddr c + 1)) (s.read (cursorAddr c + 2)) := rfl
  rw [e]
  refine ⟨ho, hm, ?_, ?_⟩
  · rw [hb]
    simp only [lineAt, State.peek, cursorAddr_add]
    cases (rom s.config (s.read (cursorAddr c))).mode <;> rfl
  · simp only [Instr.length, hm, lineAt, State.peek, Nat.add_assoc, cursorAddr_add]

/-! ### Peeks -/

@[simp] theorem memPeek_addr (s : State) (a : Addr) : (memPeek s a).addr = a := rfl
@[simp] theorem memPeek_data (s : State) (a : Addr) : (memPeek s a).data = s.read a := rfl
@[simp] theorem memPeek_we (s : State) (a : Addr) : (memPeek s a).we = false := rfl
@[simp] theorem memPeek_peek (s : State) (a : Addr) : (memPeek s a).peek = true := rfl

/-- Every transaction of the disassembler is a peek of some address. -/
theorem disassembleBus_mem {s : State} {start stop : Addr} {x : Transaction} (h : x ∈ disassembleBus s start stop) :
    ∃ a, x = memPeek s a := by
  obtain ⟨l, -, hx⟩ := List.mem_flatMap.1 h
  obtain ⟨k, -, rfl⟩ := List.mem_map.1 hx
  exact ⟨_, rfl⟩

/-- The peeks behind a line read the bytes that encode the instruction at its address. -/
theorem linePeeks_data (s : State) (c : Nat) :
    (linePeeks s (lineAt s c)).map Transaction.data =
      encode (fetchInstr { s with pc := (lineAt s c).addr }) := by
  obtain ⟨-, hop, hm, hb, -⟩ := decodeBytes_shape (s.read (cursorAddr c)) (s.read (cursorAddr c + 1))
    (s.read (cursorAddr c + 2)) s.config
  have e : fetchInstr { s with pc := (lineAt s c).addr } =
      decodeBytes (s.read (cursorAddr c)) (s.read (cursorAddr c + 1)) (s.read (cursorAddr c + 2)) := rfl
  rw [e, encode, hop, hb]
  simp only [linePeeks, lineAt, State.peek]
  cases (rom s.config (s.read (cursorAddr c))).mode <;> simp [Mode.operandBytes, List.range_succ]

/-! ### Lists of transactions -/

theorem readsAgree_append (s : State) (l m : List Transaction) :
    readsAgree s (l ++ m) ↔ readsAgree s l ∧ readsAgree (replay s l) m := by
  induction l generalizing s with
  | nil => simp [readsAgree, replay]
  | cons x l ih =>
    simp only [List.cons_append, readsAgree, replay]
    split <;> simp [ih, and_assoc]

theorem replay_append (s : State) (l m : List Transaction) : replay s (l ++ m) = replay (replay s l) m := by
  induction l generalizing s with
  | nil => rfl
  | cons x l ih => simp only [List.cons_append, replay]; split <;> exact ih _

/-- A list that reads and peeks only sees memory as it is, and changes nothing. -/
theorem reads_only {s : State} {l : List Transaction} (h : ∀ x ∈ l, x.we = false ∧ x.data = s.read x.addr) :
    readsAgree s l ∧ replay s l = s := by
  induction l with
  | nil => exact ⟨trivial, rfl⟩
  | cons x l ih =>
    obtain ⟨hw, hd⟩ := h x (by simp)
    obtain ⟨h1, h2⟩ := ih fun y hy => h y (by simp [hy])
    simp [readsAgree, replay, hw, hd, h1, h2]

end Sys2Proof.Machine
end

