-- ==== Sys2Proof/Laws/Flags.lean ====
section
/-! SUPPORT. Access to one flag, and which flags each flag computation writes (spec/10_state.md R26, R27). -/

namespace Sys2Proof.Machine

/-- `set_flag` then `get_flag` (R26). -/
@[simp] theorem getFlag_setFlag (p : Byte) (f g : Flag) (b : Bool) :
    getFlag (setFlag p f b) g = if g = f then b else getFlag p g := by
  cases f <;> cases g <;> cases b <;> simp [getFlag, setFlag, Flag.mask, Flag.bit]

/-- The eight flags are all of `P` (R25). -/
theorem eq_of_getFlag {p q : Byte} (h : ∀ f, getFlag p f = getFlag q f) : p = q := by
  apply BitVec.eq_of_getLsbD_eq
  intro i hi
  have h0 := h .C; have h1 := h .Z; have h2 := h .I; have h3 := h .D
  have h4 := h .B; have h5 := h .U; have h6 := h .V; have h7 := h .N
  simp only [getFlag, Flag.bit] at *
  interval_cases i <;> assumption

/-- `SetZN` writes Z and N and nothing else (R30). -/
theorem getFlag_setZN (v p : Byte) (g : Flag) :
    getFlag (setZN v p) g = if g = .N then v.getLsbD 7 else if g = .Z then v == 0 else getFlag p g := by
  simp [setZN]

/-- `AddCore` writes C, Z, V and N and nothing else (R160). -/
theorem getFlag_addFlags (a m p : Byte) (g : Flag) :
    getFlag (addFlags a m p) g =
      if g = .N then (addResult a m p).getLsbD 7
      else if g = .V then (~~~(a ^^^ m) &&& (a ^^^ addResult a m p)).getLsbD 7
      else if g = .Z then addResult a m p == 0
      else if g = .C then decide (addTemp a m p > 255)
      else getFlag p g := by
  simp only [addFlags, getFlag_setFlag]

/-- A compare writes C, Z and N and nothing else (R163 to R165). -/
theorem getFlag_compareFlags (r m p : Byte) (g : Flag) :
    getFlag (compareFlags r m p) g =
      if g = .N then (r - m).getLsbD 7
      else if g = .Z then r - m == 0
      else if g = .C then decide (m.toNat ≤ r.toNat)
      else getFlag p g := by
  simp only [compareFlags, getFlag_setZN, getFlag_setFlag]

/-- BIT writes Z, N and V and nothing else (R173). -/
theorem getFlag_bitFlags (a m p : Byte) (g : Flag) :
    getFlag (bitFlags a m p) g =
      if g = .V then m.getLsbD 6
      else if g = .N then m.getLsbD 7
      else if g = .Z then (a &&& m) == 0
      else getFlag p g := by
  simp only [bitFlags, getFlag_setFlag]

/-- A shift writes C, Z and N and nothing else (R180). -/
theorem getFlag_shiftFlags (c : Bool) (r p : Byte) (g : Flag) :
    getFlag (shiftFlags c r p) g =
      if g = .N then r.getLsbD 7
      else if g = .Z then r == 0
      else if g = .C then c
      else getFlag p g := by
  simp only [shiftFlags, getFlag_setZN, getFlag_setFlag]

/-- PHP's copy has B and U set, the rest as live (R221). -/
theorem getFlag_phpByte (p : Byte) (g : Flag) :
    getFlag (phpByte p) g = if g = .B then true else if g = .U then true else getFlag p g := by
  cases g <;> simp [getFlag, phpByte, Flag.bit]

/-- PLP loads the popped byte with U forced (R223). -/
theorem getFlag_plpByte (v : Byte) (g : Flag) :
    getFlag (plpByte v) g = if g = .U then true else getFlag v g := by
  cases g <;> simp [getFlag, plpByte, Flag.bit]

/-- RTI loads the popped byte with B cleared and U forced (R251). -/
theorem getFlag_rtiByte (v : Byte) (g : Flag) :
    getFlag (rtiByte v) g = if g = .U then true else if g = .B then false else getFlag v g := by
  cases g <;> simp [getFlag, rtiByte, Flag.bit]

/-- What `Irq` and `Nmi` push has B cleared and U set (R262, R265). -/
theorem getFlag_requestByte (p : Byte) (g : Flag) :
    getFlag (requestByte p) g = if g = .U then true else if g = .B then false else getFlag p g := by
  simp only [requestByte, getFlag_setFlag]

/-- What BRK pushes has I and B set (R250). -/
theorem getFlag_brkByte (p : Byte) (g : Flag) :
    getFlag (brkByte p) g = if g = .B then true else if g = .I then true else getFlag p g := by
  simp only [brkByte, getFlag_setFlag]

end Sys2Proof.Machine
end

