-- ==== Sys2Proof/Laws/Exec.lean ====
section
/-! SUPPORT. The one shape every instruction has, and what the shared operations of the meanings leave
in each field. -/

namespace Sys2Proof.Machine

/-- The operation of each operation tag, for lemmas that speak of all instructions at once. -/
def meaningOf : Op → Operand → State → State × Bool
  | .lda => opLda
  | .ldx => opLdx
  | .ldy => opLdy
  | .sta => opSta
  | .stx => opStx
  | .sty => opSty
  | .adc => opAdc
  | .sbc => opSbc
  | .cmp => opCmp
  | .cpx => opCpx
  | .cpy => opCpy
  | .and => opAnd
  | .ora => opOra
  | .eor => opEor
  | .bit => opBit
  | .asl => opAsl
  | .lsr => opLsr
  | .rol => opRol
  | .ror => opRor
  | .inc => opInc
  | .dec => opDec
  | .inx => opInx
  | .dex => opDex
  | .iny => opIny
  | .dey => opDey
  | .bcc => opBcc
  | .bcs => opBcs
  | .beq => opBeq
  | .bne => opBne
  | .bmi => opBmi
  | .bpl => opBpl
  | .bvc => opBvc
  | .bvs => opBvs
  | .jmp => opJmp
  | .jsr => opJsr
  | .rts => opRts
  | .pha => opPha
  | .php => opPhp
  | .pla => opPla
  | .plp => opPlp
  | .sec => opSec
  | .clc => opClc
  | .sed => opSed
  | .cld => opCld
  | .sei => opSei
  | .cli => opCli
  | .clv => opClv
  | .tax => opTax
  | .tay => opTay
  | .txa => opTxa
  | .tya => opTya
  | .tsx => opTsx
  | .txs => opTxs
  | .brk => opBrk
  | .rti => opRti
  | .nop => opNop
  | .xxx => opXxx

/-- Every instruction is its opcode fetch, its mode and its operation (40_sequencer.md R110). -/
theorem exec_eq_runInstr (i : Instr) (s : State) :
    exec i s = runInstr i.opcode i.operand (meaningOf i.op) s := by
  cases i <;> rfl

/-- The state an instruction leaves. -/
theorem exec_next (i : Instr) (s : State) :
    exec i s =
      let m := addrMode i.operand (startInstr i.opcode s)
      let r := meaningOf i.op i.operand m
      .next (r.1.setCycles (r.1.cycles + (modeSignal i.operand (startInstr i.opcode s) && r.2).toNat)) :=
  exec_eq_runInstr i s

/-- No instruction faults or is refused (00_scope.md R12). -/
theorem exec_isNext (i : Instr) (s : State) : ∃ t, exec i s = .next t := ⟨_, exec_next i s⟩

/-! ### The opcode fetch and the mode, field by field -/

@[simp] theorem startInstr_a (b : Byte) (s : State) : (startInstr b s).a = s.a := rfl
@[simp] theorem startInstr_x (b : Byte) (s : State) : (startInstr b s).x = s.x := rfl
@[simp] theorem startInstr_y (b : Byte) (s : State) : (startInstr b s).y = s.y := rfl
@[simp] theorem startInstr_sp (b : Byte) (s : State) : (startInstr b s).sp = s.sp := rfl
@[simp] theorem startInstr_p (b : Byte) (s : State) : (startInstr b s).p = s.p := rfl
@[simp] theorem startInstr_pc (b : Byte) (s : State) : (startInstr b s).pc = s.pc + 1 := rfl
@[simp] theorem startInstr_fetched (b : Byte) (s : State) : (startInstr b s).fetched = s.fetched := rfl
@[simp] theorem startInstr_addrAbs (b : Byte) (s : State) : (startInstr b s).addrAbs = s.addrAbs := rfl
@[simp] theorem startInstr_addrRel (b : Byte) (s : State) : (startInstr b s).addrRel = s.addrRel := rfl
@[simp] theorem startInstr_opcode (b : Byte) (s : State) : (startInstr b s).opcode = b := rfl
@[simp] theorem startInstr_cycles (b : Byte) (s : State) : (startInstr b s).cycles = (rom s.config b).base := rfl
@[simp] theorem startInstr_mem (b : Byte) (s : State) : (startInstr b s).mem = s.mem := rfl
@[simp] theorem startInstr_resetSeen (b : Byte) (s : State) : (startInstr b s).resetSeen = s.resetSeen := rfl
@[simp] theorem startInstr_config (b : Byte) (s : State) : (startInstr b s).config = s.config := rfl
@[simp] theorem startInstr_inputs (b : Byte) (s : State) : (startInstr b s).inputs = s.inputs := rfl
@[simp] theorem startInstr_read (b : Byte) (s : State) (a : Addr) : (startInstr b s).read a = s.read a := rfl

@[simp] theorem addrMode_a (o : Operand) (s : State) :
    (addrMode o s).a = s.a := rfl
@[simp] theorem addrMode_x (o : Operand) (s : State) :
    (addrMode o s).x = s.x := rfl
@[simp] theorem addrMode_y (o : Operand) (s : State) :
    (addrMode o s).y = s.y := rfl
@[simp] theorem addrMode_sp (o : Operand) (s : State) :
    (addrMode o s).sp = s.sp := rfl
@[simp] theorem addrMode_p (o : Operand) (s : State) :
    (addrMode o s).p = s.p := rfl
@[simp] theorem addrMode_pc (o : Operand) (s : State) :
    (addrMode o s).pc = s.pc + BitVec.ofNat 16 o.mode.operandBytes := rfl
@[simp] theorem addrMode_fetched (o : Operand) (s : State) :
    (addrMode o s).fetched = modeFetched o s := rfl
@[simp] theorem addrMode_addrAbs (o : Operand) (s : State) :
    (addrMode o s).addrAbs = effAddr o s := rfl
@[simp] theorem addrMode_addrRel (o : Operand) (s : State) :
    (addrMode o s).addrRel = modeAddrRel o s := rfl
@[simp] theorem addrMode_opcode (o : Operand) (s : State) :
    (addrMode o s).opcode = s.opcode := rfl
@[simp] theorem addrMode_cycles (o : Operand) (s : State) :
    (addrMode o s).cycles = s.cycles := rfl
@[simp] theorem addrMode_mem (o : Operand) (s : State) :
    (addrMode o s).mem = s.mem := rfl
@[simp] theorem addrMode_resetSeen (o : Operand) (s : State) :
    (addrMode o s).resetSeen = s.resetSeen := rfl
@[simp] theorem addrMode_config (o : Operand) (s : State) :
    (addrMode o s).config = s.config := rfl
@[simp] theorem addrMode_inputs (o : Operand) (s : State) :
    (addrMode o s).inputs = s.inputs := rfl
@[simp] theorem addrMode_read (o : Operand) (s : State) (a : Addr) : (addrMode o s).read a = s.read a := rfl

@[simp] theorem fetch_a (o : Operand) (s : State) : (fetch o s).a = s.a := rfl
@[simp] theorem fetch_x (o : Operand) (s : State) : (fetch o s).x = s.x := rfl
@[simp] theorem fetch_y (o : Operand) (s : State) : (fetch o s).y = s.y := rfl
@[simp] theorem fetch_sp (o : Operand) (s : State) : (fetch o s).sp = s.sp := rfl
@[simp] theorem fetch_p (o : Operand) (s : State) : (fetch o s).p = s.p := rfl
@[simp] theorem fetch_pc (o : Operand) (s : State) : (fetch o s).pc = s.pc := rfl
@[simp] theorem fetch_fetched (o : Operand) (s : State) : (fetch o s).fetched = operandByte o s := rfl
@[simp] theorem fetch_addrAbs (o : Operand) (s : State) : (fetch o s).addrAbs = s.addrAbs := rfl
@[simp] theorem fetch_addrRel (o : Operand) (s : State) : (fetch o s).addrRel = s.addrRel := rfl
@[simp] theorem fetch_opcode (o : Operand) (s : State) : (fetch o s).opcode = s.opcode := rfl
@[simp] theorem fetch_cycles (o : Operand) (s : State) : (fetch o s).cycles = s.cycles := rfl
@[simp] theorem fetch_mem (o : Operand) (s : State) : (fetch o s).mem = s.mem := rfl
@[simp] theorem fetch_resetSeen (o : Operand) (s : State) : (fetch o s).resetSeen = s.resetSeen := rfl
@[simp] theorem fetch_config (o : Operand) (s : State) : (fetch o s).config = s.config := rfl
@[simp] theorem fetch_inputs (o : Operand) (s : State) : (fetch o s).inputs = s.inputs := rfl
@[simp] theorem fetch_read (o : Operand) (s : State) (a : Addr) : (fetch o s).read a = s.read a := rfl

/-- The immediate operand byte is the byte `addr_abs` points at, whenever the instruction's bytes are
those in memory (41_addressing_modes.md R132, R143). -/
theorem operandByte_immediate (imm8 : Byte) (s : State) (h : s.read s.pc = imm8) :
    operandByte (.immediate imm8) (addrMode (.immediate imm8) s) =
      (addrMode (.immediate imm8) s).read (addrMode (.immediate imm8) s).addrAbs := h.symm

/-! ### Memory of a 16-bit push and of an interrupt entry -/

@[simp] theorem pushWord_a (w : Addr) (s : State) : (pushWord w s).a = s.a := rfl
@[simp] theorem pushWord_x (w : Addr) (s : State) : (pushWord w s).x = s.x := rfl
@[simp] theorem pushWord_y (w : Addr) (s : State) : (pushWord w s).y = s.y := rfl
@[simp] theorem pushWord_sp (w : Addr) (s : State) : (pushWord w s).sp = s.sp - 1 - 1 := rfl
@[simp] theorem pushWord_p (w : Addr) (s : State) : (pushWord w s).p = s.p := rfl
@[simp] theorem pushWord_pc (w : Addr) (s : State) : (pushWord w s).pc = s.pc := rfl
@[simp] theorem pushWord_fetched (w : Addr) (s : State) : (pushWord w s).fetched = s.fetched := rfl
@[simp] theorem pushWord_addrAbs (w : Addr) (s : State) : (pushWord w s).addrAbs = s.addrAbs := rfl
@[simp] theorem pushWord_addrRel (w : Addr) (s : State) : (pushWord w s).addrRel = s.addrRel := rfl
@[simp] theorem pushWord_opcode (w : Addr) (s : State) : (pushWord w s).opcode = s.opcode := rfl
@[simp] theorem pushWord_cycles (w : Addr) (s : State) : (pushWord w s).cycles = s.cycles := rfl
@[simp] theorem pushWord_resetSeen (w : Addr) (s : State) : (pushWord w s).resetSeen = s.resetSeen := rfl
@[simp] theorem pushWord_config (w : Addr) (s : State) : (pushWord w s).config = s.config := rfl
@[simp] theorem pushWord_inputs (w : Addr) (s : State) : (pushWord w s).inputs = s.inputs := rfl

/-- What a 16-bit push leaves in memory (R60). -/
theorem read_pushWord (w : Addr) (s : State) (a : Addr) :
    (pushWord w s).read a =
      if a = stackAddr (s.sp - 1) then loByte w
      else if a = stackAddr s.sp then hiByte w else s.read a := by
  simp [pushWord, read_push]

@[simp] theorem takeInterrupt_a (ret : Addr) (k l : Byte) (v : Addr) (s : State) :
    (takeInterrupt ret k l v s).a = s.a := by
  simp [takeInterrupt, State.read16]
@[simp] theorem takeInterrupt_x (ret : Addr) (k l : Byte) (v : Addr) (s : State) :
    (takeInterrupt ret k l v s).x = s.x := by
  simp [takeInterrupt, State.read16]
@[simp] theorem takeInterrupt_y (ret : Addr) (k l : Byte) (v : Addr) (s : State) :
    (takeInterrupt ret k l v s).y = s.y := by
  simp [takeInterrupt, State.read16]
@[simp] theorem takeInterrupt_sp (ret : Addr) (k l : Byte) (v : Addr) (s : State) :
    (takeInterrupt ret k l v s).sp = s.sp - 1 - 1 - 1 := by
  simp [takeInterrupt, State.read16]
@[simp] theorem takeInterrupt_p (ret : Addr) (k l : Byte) (v : Addr) (s : State) :
    (takeInterrupt ret k l v s).p = l := by
  simp [takeInterrupt, State.read16]
@[simp] theorem takeInterrupt_pc (ret : Addr) (k l : Byte) (v : Addr) (s : State) :
    (takeInterrupt ret k l v s).pc = (push k (pushWord ret s)).read16 v := by
  simp [takeInterrupt, State.read16]
@[simp] theorem takeInterrupt_fetched (ret : Addr) (k l : Byte) (v : Addr) (s : State) :
    (takeInterrupt ret k l v s).fetched = s.fetched := by
  simp [takeInterrupt, State.read16]
@[simp] theorem takeInterrupt_addrAbs (ret : Addr) (k l : Byte) (v : Addr) (s : State) :
    (takeInterrupt ret k l v s).addrAbs = s.addrAbs := by
  simp [takeInterrupt, State.read16]
@[simp] theorem takeInterrupt_addrRel (ret : Addr) (k l : Byte) (v : Addr) (s : State) :
    (takeInterrupt ret k l v s).addrRel = s.addrRel := by
  simp [takeInterrupt, State.read16]
@[simp] theorem takeInterrupt_opcode (ret : Addr) (k l : Byte) (v : Addr) (s : State) :
    (takeInterrupt ret k l v s).opcode = s.opcode := by
  simp [takeInterrupt, State.read16]
@[simp] theorem takeInterrupt_cycles (ret : Addr) (k l : Byte) (v : Addr) (s : State) :
    (takeInterrupt ret k l v s).cycles = s.cycles := by
  simp [takeInterrupt, State.read16]
@[simp] theorem takeInterrupt_resetSeen (ret : Addr) (k l : Byte) (v : Addr) (s : State) :
    (takeInterrupt ret k l v s).resetSeen = s.resetSeen := by
  simp [takeInterrupt, State.read16]
@[simp] theorem takeInterrupt_config (ret : Addr) (k l : Byte) (v : Addr) (s : State) :
    (takeInterrupt ret k l v s).config = s.config := by
  simp [takeInterrupt, State.read16]
@[simp] theorem takeInterrupt_inputs (ret : Addr) (k l : Byte) (v : Addr) (s : State) :
    (takeInterrupt ret k l v s).inputs = s.inputs := by
  simp [takeInterrupt, State.read16]

/-- The three bytes an interrupt entry pushes, and everything else as before (R267). -/
theorem read_takeInterrupt (ret : Addr) (k l : Byte) (v : Addr) (s : State) (a : Addr) :
    (takeInterrupt ret k l v s).read a =
      if a = stackAddr (s.sp - 1 - 1) then k
      else if a = stackAddr (s.sp - 1) then loByte ret
      else if a = stackAddr s.sp then hiByte ret else s.read a := by
  simp [takeInterrupt, read_push, read_pushWord]

@[simp] theorem returnFromInterrupt_a (s : State) :
    (returnFromInterrupt s).a = s.a := rfl
@[simp] theorem returnFromInterrupt_x (s : State) :
    (returnFromInterrupt s).x = s.x := rfl
@[simp] theorem returnFromInterrupt_y (s : State) :
    (returnFromInterrupt s).y = s.y := rfl
@[simp] theorem returnFromInterrupt_sp (s : State) :
    (returnFromInterrupt s).sp = s.sp + 1 + 1 + 1 := rfl
@[simp] theorem returnFromInterrupt_p (s : State) :
    (returnFromInterrupt s).p = rtiByte (popByte s) := rfl
@[simp] theorem returnFromInterrupt_pc (s : State) :
    (returnFromInterrupt s).pc = popWord (popState s) := rfl
@[simp] theorem returnFromInterrupt_fetched (s : State) :
    (returnFromInterrupt s).fetched = s.fetched := rfl
@[simp] theorem returnFromInterrupt_addrAbs (s : State) :
    (returnFromInterrupt s).addrAbs = s.addrAbs := rfl
@[simp] theorem returnFromInterrupt_addrRel (s : State) :
    (returnFromInterrupt s).addrRel = s.addrRel := rfl
@[simp] theorem returnFromInterrupt_opcode (s : State) :
    (returnFromInterrupt s).opcode = s.opcode := rfl
@[simp] theorem returnFromInterrupt_cycles (s : State) :
    (returnFromInterrupt s).cycles = s.cycles := rfl
@[simp] theorem returnFromInterrupt_mem (s : State) :
    (returnFromInterrupt s).mem = s.mem := rfl
@[simp] theorem returnFromInterrupt_resetSeen (s : State) :
    (returnFromInterrupt s).resetSeen = s.resetSeen := rfl
@[simp] theorem returnFromInterrupt_config (s : State) :
    (returnFromInterrupt s).config = s.config := rfl
@[simp] theorem returnFromInterrupt_inputs (s : State) :
    (returnFromInterrupt s).inputs = s.inputs := rfl

/-! ### Branches and write-back -/

@[simp] theorem branch_a (c : Bool) (s : State) : (branch c s).a = s.a := by
  unfold branch; cases c <;> rfl
@[simp] theorem branch_x (c : Bool) (s : State) : (branch c s).x = s.x := by
  unfold branch; cases c <;> rfl
@[simp] theorem branch_y (c : Bool) (s : State) : (branch c s).y = s.y := by
  unfold branch; cases c <;> rfl
@[simp] theorem branch_sp (c : Bool) (s : State) : (branch c s).sp = s.sp := by
  unfold branch; cases c <;> rfl
@[simp] theorem branch_p (c : Bool) (s : State) : (branch c s).p = s.p := by
  unfold branch; cases c <;> rfl
@[simp] theorem branch_fetched (c : Bool) (s : State) : (branch c s).fetched = s.fetched := by
  unfold branch; cases c <;> rfl
@[simp] theorem branch_addrAbs (c : Bool) (s : State) : (branch c s).addrAbs = s.addrAbs := by
  unfold branch; cases c <;> rfl
@[simp] theorem branch_addrRel (c : Bool) (s : State) : (branch c s).addrRel = s.addrRel := by
  unfold branch; cases c <;> rfl
@[simp] theorem branch_opcode (c : Bool) (s : State) : (branch c s).opcode = s.opcode := by
  unfold branch; cases c <;> rfl
@[simp] theorem branch_mem (c : Bool) (s : State) : (branch c s).mem = s.mem := by
  unfold branch; cases c <;> rfl
@[simp] theorem branch_resetSeen (c : Bool) (s : State) : (branch c s).resetSeen = s.resetSeen := by
  unfold branch; cases c <;> rfl
@[simp] theorem branch_config (c : Bool) (s : State) : (branch c s).config = s.config := by
  unfold branch; cases c <;> rfl
@[simp] theorem branch_inputs (c : Bool) (s : State) : (branch c s).inputs = s.inputs := by
  unfold branch; cases c <;> rfl

@[simp] theorem branch_pc (c : Bool) (s : State) :
    (branch c s).pc = if c then s.pc + s.addrRel else s.pc := by
  unfold branch; cases c <;> rfl

@[simp] theorem branch_cycles (c : Bool) (s : State) :
    (branch c s).cycles =
      if c then s.cycles + 1 + (otherPage (s.pc + s.addrRel) s.pc).toNat else s.cycles := by
  unfold branch; cases c <;> rfl

@[simp] theorem writeBack_x (o : Operand) (r : Byte) (s : State) : (writeBack o r s).x = s.x := by
  cases o <;> rfl
@[simp] theorem writeBack_y (o : Operand) (r : Byte) (s : State) : (writeBack o r s).y = s.y := by
  cases o <;> rfl
@[simp] theorem writeBack_sp (o : Operand) (r : Byte) (s : State) : (writeBack o r s).sp = s.sp := by
  cases o <;> rfl
@[simp] theorem writeBack_p (o : Operand) (r : Byte) (s : State) : (writeBack o r s).p = s.p := by
  cases o <;> rfl
@[simp] theorem writeBack_pc (o : Operand) (r : Byte) (s : State) : (writeBack o r s).pc = s.pc := by
  cases o <;> rfl
@[simp] theorem writeBack_fetched (o : Operand) (r : Byte) (s : State) : (writeBack o r s).fetched = s.fetched := by
  cases o <;> rfl
@[simp] theorem writeBack_addrAbs (o : Operand) (r : Byte) (s : State) : (writeBack o r s).addrAbs = s.addrAbs := by
  cases o <;> rfl
@[simp] theorem writeBack_addrRel (o : Operand) (r : Byte) (s : State) : (writeBack o r s).addrRel = s.addrRel := by
  cases o <;> rfl
@[simp] theorem writeBack_opcode (o : Operand) (r : Byte) (s : State) : (writeBack o r s).opcode = s.opcode := by
  cases o <;> rfl
@[simp] theorem writeBack_cycles (o : Operand) (r : Byte) (s : State) : (writeBack o r s).cycles = s.cycles := by
  cases o <;> rfl
@[simp] theorem writeBack_resetSeen (o : Operand) (r : Byte) (s : State) : (writeBack o r s).resetSeen = s.resetSeen := by
  cases o <;> rfl
@[simp] theorem writeBack_config (o : Operand) (r : Byte) (s : State) : (writeBack o r s).config = s.config := by
  cases o <;> rfl
@[simp] theorem writeBack_inputs (o : Operand) (r : Byte) (s : State) : (writeBack o r s).inputs = s.inputs := by
  cases o <;> rfl

/-- The write-back writes `A` in Implied mode only. -/
theorem writeBack_a (o : Operand) (r : Byte) (s : State) :
    (writeBack o r s).a = if o = .implied then r else s.a := by
  cases o <;> rfl

/-- The write-back writes memory in every mode but Implied. -/
theorem writeBack_mem (o : Operand) (r : Byte) (s : State) :
    (writeBack o r s).mem = if o = .implied then s.mem else (s.write s.addrAbs r).mem := by
  cases o <;> rfl

/-- The write-back changes no byte but the one at `addr_abs`. -/
theorem writeBack_read_ne (o : Operand) (r : Byte) (s : State) {a : Addr} (h : a ≠ s.addrAbs) :
    (writeBack o r s).read a = s.read a := by
  cases o <;> first | rfl | exact read_write_ne _ _ h

end Sys2Proof.Machine
end

