-- ==== Sys2Proof/Laws/PerInstr.lean ====
section
/-! SUPPORT. One lemma per constructor of `Instr` and family of statements. Family Form: the decode ROM's
entry at a well-formed instruction's opcode byte (written from the matrix, spec/30_encoding.md R87) is
the operation and the mode of that instruction (written from the list by mnemonic, R88). -/

namespace Sys2Proof.Laws.Form

/-- The encoder's opcode byte and the decode ROM agree on this instruction. -/
def Statement (i : Instr) : Prop :=
  i.wf = true →
    (rom Config.default i.opcode).op = i.op ∧ (rom Config.default i.opcode).mode = i.operand.mode ∧
      (encode i).length = i.length

theorem ldaImm (imm8 : Byte) : Statement (.ldaImm imm8) := fun _ =>
  ⟨show (rom Config.default 0xA9#8).op = .lda from rfl, show (rom Config.default 0xA9#8).mode = .imm from rfl, rfl⟩
theorem ldaZp0 (zp8 : Byte) : Statement (.ldaZp0 zp8) := fun _ =>
  ⟨show (rom Config.default 0xA5#8).op = .lda from rfl, show (rom Config.default 0xA5#8).mode = .zp0 from rfl, rfl⟩
theorem ldaZpx (zp8 : Byte) : Statement (.ldaZpx zp8) := fun _ =>
  ⟨show (rom Config.default 0xB5#8).op = .lda from rfl, show (rom Config.default 0xB5#8).mode = .zpx from rfl, rfl⟩
theorem ldaAbs (abs16 : Addr) : Statement (.ldaAbs abs16) := fun _ =>
  ⟨show (rom Config.default 0xAD#8).op = .lda from rfl, show (rom Config.default 0xAD#8).mode = .abs from rfl, rfl⟩
theorem ldaAbx (abs16 : Addr) : Statement (.ldaAbx abs16) := fun _ =>
  ⟨show (rom Config.default 0xBD#8).op = .lda from rfl, show (rom Config.default 0xBD#8).mode = .abx from rfl, rfl⟩
theorem ldaAby (abs16 : Addr) : Statement (.ldaAby abs16) := fun _ =>
  ⟨show (rom Config.default 0xB9#8).op = .lda from rfl, show (rom Config.default 0xB9#8).mode = .aby from rfl, rfl⟩
theorem ldaIzx (zp8 : Byte) : Statement (.ldaIzx zp8) := fun _ =>
  ⟨show (rom Config.default 0xA1#8).op = .lda from rfl, show (rom Config.default 0xA1#8).mode = .izx from rfl, rfl⟩
theorem ldaIzy (zp8 : Byte) : Statement (.ldaIzy zp8) := fun _ =>
  ⟨show (rom Config.default 0xB1#8).op = .lda from rfl, show (rom Config.default 0xB1#8).mode = .izy from rfl, rfl⟩
theorem ldxImm (imm8 : Byte) : Statement (.ldxImm imm8) := fun _ =>
  ⟨show (rom Config.default 0xA2#8).op = .ldx from rfl, show (rom Config.default 0xA2#8).mode = .imm from rfl, rfl⟩
theorem ldxZp0 (zp8 : Byte) : Statement (.ldxZp0 zp8) := fun _ =>
  ⟨show (rom Config.default 0xA6#8).op = .ldx from rfl, show (rom Config.default 0xA6#8).mode = .zp0 from rfl, rfl⟩
theorem ldxZpy (zp8 : Byte) : Statement (.ldxZpy zp8) := fun _ =>
  ⟨show (rom Config.default 0xB6#8).op = .ldx from rfl, show (rom Config.default 0xB6#8).mode = .zpy from rfl, rfl⟩
theorem ldxAbs (abs16 : Addr) : Statement (.ldxAbs abs16) := fun _ =>
  ⟨show (rom Config.default 0xAE#8).op = .ldx from rfl, show (rom Config.default 0xAE#8).mode = .abs from rfl, rfl⟩
theorem ldxAby (abs16 : Addr) : Statement (.ldxAby abs16) := fun _ =>
  ⟨show (rom Config.default 0xBE#8).op = .ldx from rfl, show (rom Config.default 0xBE#8).mode = .aby from rfl, rfl⟩
theorem ldyImm (imm8 : Byte) : Statement (.ldyImm imm8) := fun _ =>
  ⟨show (rom Config.default 0xA0#8).op = .ldy from rfl, show (rom Config.default 0xA0#8).mode = .imm from rfl, rfl⟩
theorem ldyZp0 (zp8 : Byte) : Statement (.ldyZp0 zp8) := fun _ =>
  ⟨show (rom Config.default 0xA4#8).op = .ldy from rfl, show (rom Config.default 0xA4#8).mode = .zp0 from rfl, rfl⟩
theorem ldyZpx (zp8 : Byte) : Statement (.ldyZpx zp8) := fun _ =>
  ⟨show (rom Config.default 0xB4#8).op = .ldy from rfl, show (rom Config.default 0xB4#8).mode = .zpx from rfl, rfl⟩
theorem ldyAbs (abs16 : Addr) : Statement (.ldyAbs abs16) := fun _ =>
  ⟨show (rom Config.default 0xAC#8).op = .ldy from rfl, show (rom Config.default 0xAC#8).mode = .abs from rfl, rfl⟩
theorem ldyAbx (abs16 : Addr) : Statement (.ldyAbx abs16) := fun _ =>
  ⟨show (rom Config.default 0xBC#8).op = .ldy from rfl, show (rom Config.default 0xBC#8).mode = .abx from rfl, rfl⟩
theorem staZp0 (zp8 : Byte) : Statement (.staZp0 zp8) := fun _ =>
  ⟨show (rom Config.default 0x85#8).op = .sta from rfl, show (rom Config.default 0x85#8).mode = .zp0 from rfl, rfl⟩
theorem staZpx (zp8 : Byte) : Statement (.staZpx zp8) := fun _ =>
  ⟨show (rom Config.default 0x95#8).op = .sta from rfl, show (rom Config.default 0x95#8).mode = .zpx from rfl, rfl⟩
theorem staAbs (abs16 : Addr) : Statement (.staAbs abs16) := fun _ =>
  ⟨show (rom Config.default 0x8D#8).op = .sta from rfl, show (rom Config.default 0x8D#8).mode = .abs from rfl, rfl⟩
theorem staAbx (abs16 : Addr) : Statement (.staAbx abs16) := fun _ =>
  ⟨show (rom Config.default 0x9D#8).op = .sta from rfl, show (rom Config.default 0x9D#8).mode = .abx from rfl, rfl⟩
theorem staAby (abs16 : Addr) : Statement (.staAby abs16) := fun _ =>
  ⟨show (rom Config.default 0x99#8).op = .sta from rfl, show (rom Config.default 0x99#8).mode = .aby from rfl, rfl⟩
theorem staIzx (zp8 : Byte) : Statement (.staIzx zp8) := fun _ =>
  ⟨show (rom Config.default 0x81#8).op = .sta from rfl, show (rom Config.default 0x81#8).mode = .izx from rfl, rfl⟩
theorem staIzy (zp8 : Byte) : Statement (.staIzy zp8) := fun _ =>
  ⟨show (rom Config.default 0x91#8).op = .sta from rfl, show (rom Config.default 0x91#8).mode = .izy from rfl, rfl⟩
theorem stxZp0 (zp8 : Byte) : Statement (.stxZp0 zp8) := fun _ =>
  ⟨show (rom Config.default 0x86#8).op = .stx from rfl, show (rom Config.default 0x86#8).mode = .zp0 from rfl, rfl⟩
theorem stxZpy (zp8 : Byte) : Statement (.stxZpy zp8) := fun _ =>
  ⟨show (rom Config.default 0x96#8).op = .stx from rfl, show (rom Config.default 0x96#8).mode = .zpy from rfl, rfl⟩
theorem stxAbs (abs16 : Addr) : Statement (.stxAbs abs16) := fun _ =>
  ⟨show (rom Config.default 0x8E#8).op = .stx from rfl, show (rom Config.default 0x8E#8).mode = .abs from rfl, rfl⟩
theorem styZp0 (zp8 : Byte) : Statement (.styZp0 zp8) := fun _ =>
  ⟨show (rom Config.default 0x84#8).op = .sty from rfl, show (rom Config.default 0x84#8).mode = .zp0 from rfl, rfl⟩
theorem styZpx (zp8 : Byte) : Statement (.styZpx zp8) := fun _ =>
  ⟨show (rom Config.default 0x94#8).op = .sty from rfl, show (rom Config.default 0x94#8).mode = .zpx from rfl, rfl⟩
theorem styAbs (abs16 : Addr) : Statement (.styAbs abs16) := fun _ =>
  ⟨show (rom Config.default 0x8C#8).op = .sty from rfl, show (rom Config.default 0x8C#8).mode = .abs from rfl, rfl⟩
theorem adcImm (imm8 : Byte) : Statement (.adcImm imm8) := fun _ =>
  ⟨show (rom Config.default 0x69#8).op = .adc from rfl, show (rom Config.default 0x69#8).mode = .imm from rfl, rfl⟩
theorem adcZp0 (zp8 : Byte) : Statement (.adcZp0 zp8) := fun _ =>
  ⟨show (rom Config.default 0x65#8).op = .adc from rfl, show (rom Config.default 0x65#8).mode = .zp0 from rfl, rfl⟩
theorem adcZpx (zp8 : Byte) : Statement (.adcZpx zp8) := fun _ =>
  ⟨show (rom Config.default 0x75#8).op = .adc from rfl, show (rom Config.default 0x75#8).mode = .zpx from rfl, rfl⟩
theorem adcAbs (abs16 : Addr) : Statement (.adcAbs abs16) := fun _ =>
  ⟨show (rom Config.default 0x6D#8).op = .adc from rfl, show (rom Config.default 0x6D#8).mode = .abs from rfl, rfl⟩
theorem adcAbx (abs16 : Addr) : Statement (.adcAbx abs16) := fun _ =>
  ⟨show (rom Config.default 0x7D#8).op = .adc from rfl, show (rom Config.default 0x7D#8).mode = .abx from rfl, rfl⟩
theorem adcAby (abs16 : Addr) : Statement (.adcAby abs16) := fun _ =>
  ⟨show (rom Config.default 0x79#8).op = .adc from rfl, show (rom Config.default 0x79#8).mode = .aby from rfl, rfl⟩
theorem adcIzx (zp8 : Byte) : Statement (.adcIzx zp8) := fun _ =>
  ⟨show (rom Config.default 0x61#8).op = .adc from rfl, show (rom Config.default 0x61#8).mode = .izx from rfl, rfl⟩
theorem adcIzy (zp8 : Byte) : Statement (.adcIzy zp8) := fun _ =>
  ⟨show (rom Config.default 0x71#8).op = .adc from rfl, show (rom Config.default 0x71#8).mode = .izy from rfl, rfl⟩
theorem sbcImm (imm8 : Byte) : Statement (.sbcImm imm8) := fun _ =>
  ⟨show (rom Config.default 0xE9#8).op = .sbc from rfl, show (rom Config.default 0xE9#8).mode = .imm from rfl, rfl⟩
theorem sbcZp0 (zp8 : Byte) : Statement (.sbcZp0 zp8) := fun _ =>
  ⟨show (rom Config.default 0xE5#8).op = .sbc from rfl, show (rom Config.default 0xE5#8).mode = .zp0 from rfl, rfl⟩
theorem sbcZpx (zp8 : Byte) : Statement (.sbcZpx zp8) := fun _ =>
  ⟨show (rom Config.default 0xF5#8).op = .sbc from rfl, show (rom Config.default 0xF5#8).mode = .zpx from rfl, rfl⟩
theorem sbcAbs (abs16 : Addr) : Statement (.sbcAbs abs16) := fun _ =>
  ⟨show (rom Config.default 0xED#8).op = .sbc from rfl, show (rom Config.default 0xED#8).mode = .abs from rfl, rfl⟩
theorem sbcAbx (abs16 : Addr) : Statement (.sbcAbx abs16) := fun _ =>
  ⟨show (rom Config.default 0xFD#8).op = .sbc from rfl, show (rom Config.default 0xFD#8).mode = .abx from rfl, rfl⟩
theorem sbcAby (abs16 : Addr) : Statement (.sbcAby abs16) := fun _ =>
  ⟨show (rom Config.default 0xF9#8).op = .sbc from rfl, show (rom Config.default 0xF9#8).mode = .aby from rfl, rfl⟩
theorem sbcIzx (zp8 : Byte) : Statement (.sbcIzx zp8) := fun _ =>
  ⟨show (rom Config.default 0xE1#8).op = .sbc from rfl, show (rom Config.default 0xE1#8).mode = .izx from rfl, rfl⟩
theorem sbcIzy (zp8 : Byte) : Statement (.sbcIzy zp8) := fun _ =>
  ⟨show (rom Config.default 0xF1#8).op = .sbc from rfl, show (rom Config.default 0xF1#8).mode = .izy from rfl, rfl⟩
theorem cmpImm (imm8 : Byte) : Statement (.cmpImm imm8) := fun _ =>
  ⟨show (rom Config.default 0xC9#8).op = .cmp from rfl, show (rom Config.default 0xC9#8).mode = .imm from rfl, rfl⟩
theorem cmpZp0 (zp8 : Byte) : Statement (.cmpZp0 zp8) := fun _ =>
  ⟨show (rom Config.default 0xC5#8).op = .cmp from rfl, show (rom Config.default 0xC5#8).mode = .zp0 from rfl, rfl⟩
theorem cmpZpx (zp8 : Byte) : Statement (.cmpZpx zp8) := fun _ =>
  ⟨show (rom Config.default 0xD5#8).op = .cmp from rfl, show (rom Config.default 0xD5#8).mode = .zpx from rfl, rfl⟩
theorem cmpAbs (abs16 : Addr) : Statement (.cmpAbs abs16) := fun _ =>
  ⟨show (rom Config.default 0xCD#8).op = .cmp from rfl, show (rom Config.default 0xCD#8).mode = .abs from rfl, rfl⟩
theorem cmpAbx (abs16 : Addr) : Statement (.cmpAbx abs16) := fun _ =>
  ⟨show (rom Config.default 0xDD#8).op = .cmp from rfl, show (rom Config.default 0xDD#8).mode = .abx from rfl, rfl⟩
theorem cmpAby (abs16 : Addr) : Statement (.cmpAby abs16) := fun _ =>
  ⟨show (rom Config.default 0xD9#8).op = .cmp from rfl, show (rom Config.default 0xD9#8).mode = .aby from rfl, rfl⟩
theorem cmpIzx (zp8 : Byte) : Statement (.cmpIzx zp8) := fun _ =>
  ⟨show (rom Config.default 0xC1#8).op = .cmp from rfl, show (rom Config.default 0xC1#8).mode = .izx from rfl, rfl⟩
theorem cmpIzy (zp8 : Byte) : Statement (.cmpIzy zp8) := fun _ =>
  ⟨show (rom Config.default 0xD1#8).op = .cmp from rfl, show (rom Config.default 0xD1#8).mode = .izy from rfl, rfl⟩
theorem cpxImm (imm8 : Byte) : Statement (.cpxImm imm8) := fun _ =>
  ⟨show (rom Config.default 0xE0#8).op = .cpx from rfl, show (rom Config.default 0xE0#8).mode = .imm from rfl, rfl⟩
theorem cpxZp0 (zp8 : Byte) : Statement (.cpxZp0 zp8) := fun _ =>
  ⟨show (rom Config.default 0xE4#8).op = .cpx from rfl, show (rom Config.default 0xE4#8).mode = .zp0 from rfl, rfl⟩
theorem cpxAbs (abs16 : Addr) : Statement (.cpxAbs abs16) := fun _ =>
  ⟨show (rom Config.default 0xEC#8).op = .cpx from rfl, show (rom Config.default 0xEC#8).mode = .abs from rfl, rfl⟩
theorem cpyImm (imm8 : Byte) : Statement (.cpyImm imm8) := fun _ =>
  ⟨show (rom Config.default 0xC0#8).op = .cpy from rfl, show (rom Config.default 0xC0#8).mode = .imm from rfl, rfl⟩
theorem cpyZp0 (zp8 : Byte) : Statement (.cpyZp0 zp8) := fun _ =>
  ⟨show (rom Config.default 0xC4#8).op = .cpy from rfl, show (rom Config.default 0xC4#8).mode = .zp0 from rfl, rfl⟩
theorem cpyAbs (abs16 : Addr) : Statement (.cpyAbs abs16) := fun _ =>
  ⟨show (rom Config.default 0xCC#8).op = .cpy from rfl, show (rom Config.default 0xCC#8).mode = .abs from rfl, rfl⟩
theorem andImm (imm8 : Byte) : Statement (.andImm imm8) := fun _ =>
  ⟨show (rom Config.default 0x29#8).op = .and from rfl, show (rom Config.default 0x29#8).mode = .imm from rfl, rfl⟩
theorem andZp0 (zp8 : Byte) : Statement (.andZp0 zp8) := fun _ =>
  ⟨show (rom Config.default 0x25#8).op = .and from rfl, show (rom Config.default 0x25#8).mode = .zp0 from rfl, rfl⟩
theorem andZpx (zp8 : Byte) : Statement (.andZpx zp8) := fun _ =>
  ⟨show (rom Config.default 0x35#8).op = .and from rfl, show (rom Config.default 0x35#8).mode = .zpx from rfl, rfl⟩
theorem andAbs (abs16 : Addr) : Statement (.andAbs abs16) := fun _ =>
  ⟨show (rom Config.default 0x2D#8).op = .and from rfl, show (rom Config.default 0x2D#8).mode = .abs from rfl, rfl⟩
theorem andAbx (abs16 : Addr) : Statement (.andAbx abs16) := fun _ =>
  ⟨show (rom Config.default 0x3D#8).op = .and from rfl, show (rom Config.default 0x3D#8).mode = .abx from rfl, rfl⟩
theorem andAby (abs16 : Addr) : Statement (.andAby abs16) := fun _ =>
  ⟨show (rom Config.default 0x39#8).op = .and from rfl, show (rom Config.default 0x39#8).mode = .aby from rfl, rfl⟩
theorem andIzx (zp8 : Byte) : Statement (.andIzx zp8) := fun _ =>
  ⟨show (rom Config.default 0x21#8).op = .and from rfl, show (rom Config.default 0x21#8).mode = .izx from rfl, rfl⟩
theorem andIzy (zp8 : Byte) : Statement (.andIzy zp8) := fun _ =>
  ⟨show (rom Config.default 0x31#8).op = .and from rfl, show (rom Config.default 0x31#8).mode = .izy from rfl, rfl⟩
theorem oraImm (imm8 : Byte) : Statement (.oraImm imm8) := fun _ =>
  ⟨show (rom Config.default 0x09#8).op = .ora from rfl, show (rom Config.default 0x09#8).mode = .imm from rfl, rfl⟩
theorem oraZp0 (zp8 : Byte) : Statement (.oraZp0 zp8) := fun _ =>
  ⟨show (rom Config.default 0x05#8).op = .ora from rfl, show (rom Config.default 0x05#8).mode = .zp0 from rfl, rfl⟩
theorem oraZpx (zp8 : Byte) : Statement (.oraZpx zp8) := fun _ =>
  ⟨show (rom Config.default 0x15#8).op = .ora from rfl, show (rom Config.default 0x15#8).mode = .zpx from rfl, rfl⟩
theorem oraAbs (abs16 : Addr) : Statement (.oraAbs abs16) := fun _ =>
  ⟨show (rom Config.default 0x0D#8).op = .ora from rfl, show (rom Config.default 0x0D#8).mode = .abs from rfl, rfl⟩
theorem oraAbx (abs16 : Addr) : Statement (.oraAbx abs16) := fun _ =>
  ⟨show (rom Config.default 0x1D#8).op = .ora from rfl, show (rom Config.default 0x1D#8).mode = .abx from rfl, rfl⟩
theorem oraAby (abs16 : Addr) : Statement (.oraAby abs16) := fun _ =>
  ⟨show (rom Config.default 0x19#8).op = .ora from rfl, show (rom Config.default 0x19#8).mode = .aby from rfl, rfl⟩
theorem oraIzx (zp8 : Byte) : Statement (.oraIzx zp8) := fun _ =>
  ⟨show (rom Config.default 0x01#8).op = .ora from rfl, show (rom Config.default 0x01#8).mode = .izx from rfl, rfl⟩
theorem oraIzy (zp8 : Byte) : Statement (.oraIzy zp8) := fun _ =>
  ⟨show (rom Config.default 0x11#8).op = .ora from rfl, show (rom Config.default 0x11#8).mode = .izy from rfl, rfl⟩
theorem eorImm (imm8 : Byte) : Statement (.eorImm imm8) := fun _ =>
  ⟨show (rom Config.default 0x49#8).op = .eor from rfl, show (rom Config.default 0x49#8).mode = .imm from rfl, rfl⟩
theorem eorZp0 (zp8 : Byte) : Statement (.eorZp0 zp8) := fun _ =>
  ⟨show (rom Config.default 0x45#8).op = .eor from rfl, show (rom Config.default 0x45#8).mode = .zp0 from rfl, rfl⟩
theorem eorZpx (zp8 : Byte) : Statement (.eorZpx zp8) := fun _ =>
  ⟨show (rom Config.default 0x55#8).op = .eor from rfl, show (rom Config.default 0x55#8).mode = .zpx from rfl, rfl⟩
theorem eorAbs (abs16 : Addr) : Statement (.eorAbs abs16) := fun _ =>
  ⟨show (rom Config.default 0x4D#8).op = .eor from rfl, show (rom Config.default 0x4D#8).mode = .abs from rfl, rfl⟩
theorem eorAbx (abs16 : Addr) : Statement (.eorAbx abs16) := fun _ =>
  ⟨show (rom Config.default 0x5D#8).op = .eor from rfl, show (rom Config.default 0x5D#8).mode = .abx from rfl, rfl⟩
theorem eorAby (abs16 : Addr) : Statement (.eorAby abs16) := fun _ =>
  ⟨show (rom Config.default 0x59#8).op = .eor from rfl, show (rom Config.default 0x59#8).mode = .aby from rfl, rfl⟩
theorem eorIzx (zp8 : Byte) : Statement (.eorIzx zp8) := fun _ =>
  ⟨show (rom Config.default 0x41#8).op = .eor from rfl, show (rom Config.default 0x41#8).mode = .izx from rfl, rfl⟩
theorem eorIzy (zp8 : Byte) : Statement (.eorIzy zp8) := fun _ =>
  ⟨show (rom Config.default 0x51#8).op = .eor from rfl, show (rom Config.default 0x51#8).mode = .izy from rfl, rfl⟩
theorem bitZp0 (zp8 : Byte) : Statement (.bitZp0 zp8) := fun _ =>
  ⟨show (rom Config.default 0x24#8).op = .bit from rfl, show (rom Config.default 0x24#8).mode = .zp0 from rfl, rfl⟩
theorem bitAbs (abs16 : Addr) : Statement (.bitAbs abs16) := fun _ =>
  ⟨show (rom Config.default 0x2C#8).op = .bit from rfl, show (rom Config.default 0x2C#8).mode = .abs from rfl, rfl⟩
theorem aslImp : Statement (.aslImp) := fun _ =>
  ⟨show (rom Config.default 0x0A#8).op = .asl from rfl, show (rom Config.default 0x0A#8).mode = .imp from rfl, rfl⟩
theorem aslZp0 (zp8 : Byte) : Statement (.aslZp0 zp8) := fun _ =>
  ⟨show (rom Config.default 0x06#8).op = .asl from rfl, show (rom Config.default 0x06#8).mode = .zp0 from rfl, rfl⟩
theorem aslZpx (zp8 : Byte) : Statement (.aslZpx zp8) := fun _ =>
  ⟨show (rom Config.default 0x16#8).op = .asl from rfl, show (rom Config.default 0x16#8).mode = .zpx from rfl, rfl⟩
theorem aslAbs (abs16 : Addr) : Statement (.aslAbs abs16) := fun _ =>
  ⟨show (rom Config.default 0x0E#8).op = .asl from rfl, show (rom Config.default 0x0E#8).mode = .abs from rfl, rfl⟩
theorem aslAbx (abs16 : Addr) : Statement (.aslAbx abs16) := fun _ =>
  ⟨show (rom Config.default 0x1E#8).op = .asl from rfl, show (rom Config.default 0x1E#8).mode = .abx from rfl, rfl⟩
theorem lsrImp : Statement (.lsrImp) := fun _ =>
  ⟨show (rom Config.default 0x4A#8).op = .lsr from rfl, show (rom Config.default 0x4A#8).mode = .imp from rfl, rfl⟩
theorem lsrZp0 (zp8 : Byte) : Statement (.lsrZp0 zp8) := fun _ =>
  ⟨show (rom Config.default 0x46#8).op = .lsr from rfl, show (rom Config.default 0x46#8).mode = .zp0 from rfl, rfl⟩
theorem lsrZpx (zp8 : Byte) : Statement (.lsrZpx zp8) := fun _ =>
  ⟨show (rom Config.default 0x56#8).op = .lsr from rfl, show (rom Config.default 0x56#8).mode = .zpx from rfl, rfl⟩
theorem lsrAbs (abs16 : Addr) : Statement (.lsrAbs abs16) := fun _ =>
  ⟨show (rom Config.default 0x4E#8).op = .lsr from rfl, show (rom Config.default 0x4E#8).mode = .abs from rfl, rfl⟩
theorem lsrAbx (abs16 : Addr) : Statement (.lsrAbx abs16) := fun _ =>
  ⟨show (rom Config.default 0x5E#8).op = .lsr from rfl, show (rom Config.default 0x5E#8).mode = .abx from rfl, rfl⟩
theorem rolImp : Statement (.rolImp) := fun _ =>
  ⟨show (rom Config.default 0x2A#8).op = .rol from rfl, show (rom Config.default 0x2A#8).mode = .imp from rfl, rfl⟩
theorem rolZp0 (zp8 : Byte) : Statement (.rolZp0 zp8) := fun _ =>
  ⟨show (rom Config.default 0x26#8).op = .rol from rfl, show (rom Config.default 0x26#8).mode = .zp0 from rfl, rfl⟩
theorem rolZpx (zp8 : Byte) : Statement (.rolZpx zp8) := fun _ =>
  ⟨show (rom Config.default 0x36#8).op = .rol from rfl, show (rom Config.default 0x36#8).mode = .zpx from rfl, rfl⟩
theorem rolAbs (abs16 : Addr) : Statement (.rolAbs abs16) := fun _ =>
  ⟨show (rom Config.default 0x2E#8).op = .rol from rfl, show (rom Config.default 0x2E#8).mode = .abs from rfl, rfl⟩
theorem rolAbx (abs16 : Addr) : Statement (.rolAbx abs16) := fun _ =>
  ⟨show (rom Config.default 0x3E#8).op = .rol from rfl, show (rom Config.default 0x3E#8).mode = .abx from rfl, rfl⟩
theorem rorImp : Statement (.rorImp) := fun _ =>
  ⟨show (rom Config.default 0x6A#8).op = .ror from rfl, show (rom Config.default 0x6A#8).mode = .imp from rfl, rfl⟩
theorem rorZp0 (zp8 : Byte) : Statement (.rorZp0 zp8) := fun _ =>
  ⟨show (rom Config.default 0x66#8).op = .ror from rfl, show (rom Config.default 0x66#8).mode = .zp0 from rfl, rfl⟩
theorem rorZpx (zp8 : Byte) : Statement (.rorZpx zp8) := fun _ =>
  ⟨show (rom Config.default 0x76#8).op = .ror from rfl, show (rom Config.default 0x76#8).mode = .zpx from rfl, rfl⟩
theorem rorAbs (abs16 : Addr) : Statement (.rorAbs abs16) := fun _ =>
  ⟨show (rom Config.default 0x6E#8).op = .ror from rfl, show (rom Config.default 0x6E#8).mode = .abs from rfl, rfl⟩
theorem rorAbx (abs16 : Addr) : Statement (.rorAbx abs16) := fun _ =>
  ⟨show (rom Config.default 0x7E#8).op = .ror from rfl, show (rom Config.default 0x7E#8).mode = .abx from rfl, rfl⟩
theorem incZp0 (zp8 : Byte) : Statement (.incZp0 zp8) := fun _ =>
  ⟨show (rom Config.default 0xE6#8).op = .inc from rfl, show (rom Config.default 0xE6#8).mode = .zp0 from rfl, rfl⟩
theorem incZpx (zp8 : Byte) : Statement (.incZpx zp8) := fun _ =>
  ⟨show (rom Config.default 0xF6#8).op = .inc from rfl, show (rom Config.default 0xF6#8).mode = .zpx from rfl, rfl⟩
theorem incAbs (abs16 : Addr) : Statement (.incAbs abs16) := fun _ =>
  ⟨show (rom Config.default 0xEE#8).op = .inc from rfl, show (rom Config.default 0xEE#8).mode = .abs from rfl, rfl⟩
theorem incAbx (abs16 : Addr) : Statement (.incAbx abs16) := fun _ =>
  ⟨show (rom Config.default 0xFE#8).op = .inc from rfl, show (rom Config.default 0xFE#8).mode = .abx from rfl, rfl⟩
theorem decZp0 (zp8 : Byte) : Statement (.decZp0 zp8) := fun _ =>
  ⟨show (rom Config.default 0xC6#8).op = .dec from rfl, show (rom Config.default 0xC6#8).mode = .zp0 from rfl, rfl⟩
theorem decZpx (zp8 : Byte) : Statement (.decZpx zp8) := fun _ =>
  ⟨show (rom Config.default 0xD6#8).op = .dec from rfl, show (rom Config.default 0xD6#8).mode = .zpx from rfl, rfl⟩
theorem decAbs (abs16 : Addr) : Statement (.decAbs abs16) := fun _ =>
  ⟨show (rom Config.default 0xCE#8).op = .dec from rfl, show (rom Config.default 0xCE#8).mode = .abs from rfl, rfl⟩
theorem decAbx (abs16 : Addr) : Statement (.decAbx abs16) := fun _ =>
  ⟨show (rom Config.default 0xDE#8).op = .dec from rfl, show (rom Config.default 0xDE#8).mode = .abx from rfl, rfl⟩
theorem inx : Statement (.inx) := fun _ =>
  ⟨show (rom Config.default 0xE8#8).op = .inx from rfl, show (rom Config.default 0xE8#8).mode = .imp from rfl, rfl⟩
theorem dex : Statement (.dex) := fun _ =>
  ⟨show (rom Config.default 0xCA#8).op = .dex from rfl, show (rom Config.default 0xCA#8).mode = .imp from rfl, rfl⟩
theorem iny : Statement (.iny) := fun _ =>
  ⟨show (rom Config.default 0xC8#8).op = .iny from rfl, show (rom Config.default 0xC8#8).mode = .imp from rfl, rfl⟩
theorem dey : Statement (.dey) := fun _ =>
  ⟨show (rom Config.default 0x88#8).op = .dey from rfl, show (rom Config.default 0x88#8).mode = .imp from rfl, rfl⟩
theorem bcc (rel8 : Byte) : Statement (.bcc rel8) := fun _ =>
  ⟨show (rom Config.default 0x90#8).op = .bcc from rfl, show (rom Config.default 0x90#8).mode = .rel from rfl, rfl⟩
theorem bcs (rel8 : Byte) : Statement (.bcs rel8) := fun _ =>
  ⟨show (rom Config.default 0xB0#8).op = .bcs from rfl, show (rom Config.default 0xB0#8).mode = .rel from rfl, rfl⟩
theorem beq (rel8 : Byte) : Statement (.beq rel8) := fun _ =>
  ⟨show (rom Config.default 0xF0#8).op = .beq from rfl, show (rom Config.default 0xF0#8).mode = .rel from rfl, rfl⟩
theorem bne (rel8 : Byte) : Statement (.bne rel8) := fun _ =>
  ⟨show (rom Config.default 0xD0#8).op = .bne from rfl, show (rom Config.default 0xD0#8).mode = .rel from rfl, rfl⟩
theorem bmi (rel8 : Byte) : Statement (.bmi rel8) := fun _ =>
  ⟨show (rom Config.default 0x30#8).op = .bmi from rfl, show (rom Config.default 0x30#8).mode = .rel from rfl, rfl⟩
theorem bpl (rel8 : Byte) : Statement (.bpl rel8) := fun _ =>
  ⟨show (rom Config.default 0x10#8).op = .bpl from rfl, show (rom Config.default 0x10#8).mode = .rel from rfl, rfl⟩
theorem bvc (rel8 : Byte) : Statement (.bvc rel8) := fun _ =>
  ⟨show (rom Config.default 0x50#8).op = .bvc from rfl, show (rom Config.default 0x50#8).mode = .rel from rfl, rfl⟩
theorem bvs (rel8 : Byte) : Statement (.bvs rel8) := fun _ =>
  ⟨show (rom Config.default 0x70#8).op = .bvs from rfl, show (rom Config.default 0x70#8).mode = .rel from rfl, rfl⟩
theorem jmpAbs (abs16 : Addr) : Statement (.jmpAbs abs16) := fun _ =>
  ⟨show (rom Config.default 0x4C#8).op = .jmp from rfl, show (rom Config.default 0x4C#8).mode = .abs from rfl, rfl⟩
theorem jmpInd (ptr16 : Addr) : Statement (.jmpInd ptr16) := fun _ =>
  ⟨show (rom Config.default 0x6C#8).op = .jmp from rfl, show (rom Config.default 0x6C#8).mode = .ind from rfl, rfl⟩
theorem jsr (abs16 : Addr) : Statement (.jsr abs16) := fun _ =>
  ⟨show (rom Config.default 0x20#8).op = .jsr from rfl, show (rom Config.default 0x20#8).mode = .abs from rfl, rfl⟩
theorem rts : Statement (.rts) := fun _ =>
  ⟨show (rom Config.default 0x60#8).op = .rts from rfl, show (rom Config.default 0x60#8).mode = .imp from rfl, rfl⟩
theorem pha : Statement (.pha) := fun _ =>
  ⟨show (rom Config.default 0x48#8).op = .pha from rfl, show (rom Config.default 0x48#8).mode = .imp from rfl, rfl⟩
theorem php : Statement (.php) := fun _ =>
  ⟨show (rom Config.default 0x08#8).op = .php from rfl, show (rom Config.default 0x08#8).mode = .imp from rfl, rfl⟩
theorem pla : Statement (.pla) := fun _ =>
  ⟨show (rom Config.default 0x68#8).op = .pla from rfl, show (rom Config.default 0x68#8).mode = .imp from rfl, rfl⟩
theorem plp : Statement (.plp) := fun _ =>
  ⟨show (rom Config.default 0x28#8).op = .plp from rfl, show (rom Config.default 0x28#8).mode = .imp from rfl, rfl⟩
theorem sec : Statement (.sec) := fun _ =>
  ⟨show (rom Config.default 0x38#8).op = .sec from rfl, show (rom Config.default 0x38#8).mode = .imp from rfl, rfl⟩
theorem clc : Statement (.clc) := fun _ =>
  ⟨show (rom Config.default 0x18#8).op = .clc from rfl, show (rom Config.default 0x18#8).mode = .imp from rfl, rfl⟩
theorem sed : Statement (.sed) := fun _ =>
  ⟨show (rom Config.default 0xF8#8).op = .sed from rfl, show (rom Config.default 0xF8#8).mode = .imp from rfl, rfl⟩
theorem cld : Statement (.cld) := fun _ =>
  ⟨show (rom Config.default 0xD8#8).op = .cld from rfl, show (rom Config.default 0xD8#8).mode = .imp from rfl, rfl⟩
theorem sei : Statement (.sei) := fun _ =>
  ⟨show (rom Config.default 0x78#8).op = .sei from rfl, show (rom Config.default 0x78#8).mode = .imp from rfl, rfl⟩
theorem cli : Statement (.cli) := fun _ =>
  ⟨show (rom Config.default 0x58#8).op = .cli from rfl, show (rom Config.default 0x58#8).mode = .imp from rfl, rfl⟩
theorem clv : Statement (.clv) := fun _ =>
  ⟨show (rom Config.default 0xB8#8).op = .clv from rfl, show (rom Config.default 0xB8#8).mode = .imp from rfl, rfl⟩
theorem tax : Statement (.tax) := fun _ =>
  ⟨show (rom Config.default 0xAA#8).op = .tax from rfl, show (rom Config.default 0xAA#8).mode = .imp from rfl, rfl⟩
theorem tay : Statement (.tay) := fun _ =>
  ⟨show (rom Config.default 0xA8#8).op = .tay from rfl, show (rom Config.default 0xA8#8).mode = .imp from rfl, rfl⟩
theorem txa : Statement (.txa) := fun _ =>
  ⟨show (rom Config.default 0x8A#8).op = .txa from rfl, show (rom Config.default 0x8A#8).mode = .imp from rfl, rfl⟩
theorem tya : Statement (.tya) := fun _ =>
  ⟨show (rom Config.default 0x98#8).op = .tya from rfl, show (rom Config.default 0x98#8).mode = .imp from rfl, rfl⟩
theorem tsx : Statement (.tsx) := fun _ =>
  ⟨show (rom Config.default 0xBA#8).op = .tsx from rfl, show (rom Config.default 0xBA#8).mode = .imp from rfl, rfl⟩
theorem txs : Statement (.txs) := fun _ =>
  ⟨show (rom Config.default 0x9A#8).op = .txs from rfl, show (rom Config.default 0x9A#8).mode = .imp from rfl, rfl⟩
theorem brk : Statement (.brk) := fun _ =>
  ⟨show (rom Config.default 0x00#8).op = .brk from rfl, show (rom Config.default 0x00#8).mode = .imp from rfl, rfl⟩
theorem rti : Statement (.rti) := fun _ =>
  ⟨show (rom Config.default 0x40#8).op = .rti from rfl, show (rom Config.default 0x40#8).mode = .imp from rfl, rfl⟩
theorem nop : Statement (.nop) := fun _ =>
  ⟨show (rom Config.default 0xEA#8).op = .nop from rfl, show (rom Config.default 0xEA#8).mode = .imp from rfl, rfl⟩

theorem unimplemented (opcode : Byte) : Statement (.unimplemented opcode) := fun h => by
  have hb : matrixCell opcode = none :=
    matrixCell_unassigned opcode (List.contains_iff_mem.1 h)
  simp [Instr.opcode, rom, hb, Instr.op, Instr.operand, Instr.form, Operand.mode, encode,
    Operand.bytes, Instr.length, Mode.operandBytes]

end Sys2Proof.Laws.Form
end

