-- ==== Sys2Proof/Laws/Step.lean ====
section
/-! SUPPORT. What one event and one step can do, said once. -/

namespace Sys2Proof.Machine

/-- A boundary `Clock` is the instruction at `PC`, then the countdown (40_sequencer.md R110). -/
theorem clock_boundary {s t : State} (hc : s.cycles = 0) (h : exec (fetchInstr s) s = .next t) :
    clock s = .next (countDown t) := by
  simp [clock, hc, h, thenCountDown]

/-- An InFlight `Clock` is the countdown alone (40_sequencer.md R113). -/
theorem clock_inFlight {s : State} (hc : s.cycles ≠ 0) : clock s = .next (countDown s) := by
  cases h : s.cycles with
  | zero => exact absurd h hc
  | succ n => simp [clock, h]

/-- Everything an event that has a next state can do. -/
theorem event_cases {e : Event} {s t : State} (h : event e s = .next t) :
    (e = .clock ∧ s.resetSeen = true ∧ s.cycles = 0 ∧
      ∃ u, exec (fetchInstr s) s = .next u ∧ t = countDown u) ∨
    (e = .clock ∧ s.resetSeen = true ∧ s.cycles ≠ 0 ∧ t = countDown s) ∨
    (e = .reset ∧ t = doReset s) ∨
    (e = .irq ∧ s.resetSeen = true ∧ s.cycles = 0 ∧ t = doIrq s) ∨
    (e = .nmi ∧ s.resetSeen = true ∧ s.cycles = 0 ∧ t = doNmi s) ∨
    (∃ a v, e = .hostWrite a v ∧ t = s.write a v) := by
  cases e with
  | clock =>
    cases hr : s.resetSeen with
    | false => simp [event, afterReset, hr] at h
    | true =>
      simp only [event, afterReset, hr, if_true] at h
      by_cases hc : s.cycles = 0
      · obtain ⟨u, hu⟩ := exec_isNext (fetchInstr s) s
        rw [clock_boundary hc hu] at h
        exact .inl ⟨rfl, rfl, hc, u, hu, by simpa using h.symm⟩
      · rw [clock_inFlight hc] at h
        exact .inr (.inl ⟨rfl, rfl, hc, by simpa using h.symm⟩)
  | reset => exact .inr (.inr (.inl ⟨rfl, by simpa [event] using h.symm⟩))
  | irq =>
    cases hr : s.resetSeen with
    | false => simp [event, afterReset, hr] at h
    | true =>
      cases hc : s.cycles with
      | zero => exact .inr (.inr (.inr (.inl ⟨rfl, rfl, rfl, by simpa [event, afterReset, hr, request, hc] using h.symm⟩)))
      | succ n => simp [event, afterReset, hr, request, hc] at h
  | nmi =>
    cases hr : s.resetSeen with
    | false => simp [event, afterReset, hr] at h
    | true =>
      cases hc : s.cycles with
      | zero => exact .inr (.inr (.inr (.inr (.inl ⟨rfl, rfl, rfl, by simpa [event, afterReset, hr, request, hc] using h.symm⟩))))
      | succ n => simp [event, afterReset, hr, request, hc] at h
  | hostWrite a v => exact .inr (.inr (.inr (.inr (.inr ⟨a, v, rfl, by simpa [event] using h.symm⟩))))

/-- A step is the first input's event, or a `Clock`, on the state without that input. -/
theorem step_cases {s t : State} (h : step s = .next t) :
    (s.inputs = [] ∧ event .clock s = .next t) ∨
    ∃ e rest, s.inputs = e :: rest ∧ event e (s.setInputs rest) = .next t := by
  cases hi : s.inputs with
  | nil => exact .inl ⟨rfl, by simpa [step, hi] using h⟩
  | cons e rest => exact .inr ⟨e, rest, rfl, by simpa [step, hi] using h⟩

end Sys2Proof.Machine
end

