-- ==== Sys2Proof/Laws/Frame.lean ====
section
/-! SUPPORT. The bridge from `exec` to the words of Safety.lean: the operand an instruction uses, where it
goes on, what it leaves in each field, and the frames of the shared state updates. -/

namespace Sys2Proof.Machine

/-- The state the operation of an instruction starts from: after the opcode fetch and the mode. -/
def modeState (i : Instr) (s : State) : State := addrMode i.operand (startInstr i.opcode s)

/-- The state an instruction leaves, from what its operation leaves. -/
def finish (i : Instr) (s : State) (r : State × Bool) : State :=
  r.1.setCycles (r.1.cycles + (modeSignal i.operand (startInstr i.opcode s) && r.2).toNat)

/-- `exec` in terms of the two (40_sequencer.md R110). -/
theorem exec_finish (i : Instr) (s : State) :
    exec i s = .next (finish i s (meaningOf i.op i.operand (modeState i s))) := exec_next i s

/-- An answer of `exec` is the state it leaves. -/
theorem eq_of_exec {i : Instr} {s t : State} (h : exec i s = .next t) :
    t = finish i s (meaningOf i.op i.operand (modeState i s)) := by
  rw [exec_finish] at h
  exact (Host.Outcome.next.inj h).symm

@[simp] theorem finish_a (i : Instr) (s : State) (r : State × Bool) : (finish i s r).a = r.1.a := rfl
@[simp] theorem finish_x (i : Instr) (s : State) (r : State × Bool) : (finish i s r).x = r.1.x := rfl
@[simp] theorem finish_y (i : Instr) (s : State) (r : State × Bool) : (finish i s r).y = r.1.y := rfl
@[simp] theorem finish_sp (i : Instr) (s : State) (r : State × Bool) : (finish i s r).sp = r.1.sp := rfl
@[simp] theorem finish_p (i : Instr) (s : State) (r : State × Bool) : (finish i s r).p = r.1.p := rfl
@[simp] theorem finish_pc (i : Instr) (s : State) (r : State × Bool) : (finish i s r).pc = r.1.pc := rfl
@[simp] theorem finish_fetched (i : Instr) (s : State) (r : State × Bool) :
    (finish i s r).fetched = r.1.fetched := rfl
@[simp] theorem finish_addrAbs (i : Instr) (s : State) (r : State × Bool) :
    (finish i s r).addrAbs = r.1.addrAbs := rfl
@[simp] theorem finish_addrRel (i : Instr) (s : State) (r : State × Bool) :
    (finish i s r).addrRel = r.1.addrRel := rfl
@[simp] theorem finish_opcode (i : Instr) (s : State) (r : State × Bool) :
    (finish i s r).opcode = r.1.opcode := rfl
@[simp] theorem finish_cycles (i : Instr) (s : State) (r : State × Bool) :
    (finish i s r).cycles =
      r.1.cycles + (modeSignal i.operand (startInstr i.opcode s) && r.2).toNat := rfl
@[simp] theorem finish_mem (i : Instr) (s : State) (r : State × Bool) : (finish i s r).mem = r.1.mem := rfl
@[simp] theorem finish_resetSeen (i : Instr) (s : State) (r : State × Bool) :
    (finish i s r).resetSeen = r.1.resetSeen := rfl
@[simp] theorem finish_config (i : Instr) (s : State) (r : State × Bool) :
    (finish i s r).config = r.1.config := rfl
@[simp] theorem finish_inputs (i : Instr) (s : State) (r : State × Bool) :
    (finish i s r).inputs = r.1.inputs := rfl
@[simp] theorem finish_read (i : Instr) (s : State) (r : State × Bool) (a : Addr) :
    (finish i s r).read a = r.1.read a := rfl

@[simp] theorem modeState_a (i : Instr) (s : State) : (modeState i s).a = s.a := by simp [modeState]
@[simp] theorem modeState_x (i : Instr) (s : State) : (modeState i s).x = s.x := by simp [modeState]
@[simp] theorem modeState_y (i : Instr) (s : State) : (modeState i s).y = s.y := by simp [modeState]
@[simp] theorem modeState_sp (i : Instr) (s : State) : (modeState i s).sp = s.sp := by simp [modeState]
@[simp] theorem modeState_p (i : Instr) (s : State) : (modeState i s).p = s.p := by simp [modeState]
@[simp] theorem modeState_mem (i : Instr) (s : State) : (modeState i s).mem = s.mem := by simp [modeState]
@[simp] theorem modeState_opcode (i : Instr) (s : State) : (modeState i s).opcode = i.opcode := by simp [modeState]
@[simp] theorem modeState_cycles (i : Instr) (s : State) :
    (modeState i s).cycles = (rom s.config i.opcode).base := by simp [modeState]
@[simp] theorem modeState_addrAbs (i : Instr) (s : State) : (modeState i s).addrAbs = resolved i s := by simp [modeState, resolved]
@[simp] theorem modeState_addrRel (i : Instr) (s : State) :
    (modeState i s).addrRel = modeAddrRel i.operand s := by
  simp only [modeState, addrMode_addrRel]
  cases i.operand <;> simp [modeAddrRel]
@[simp] theorem modeState_fetched (i : Instr) (s : State) :
    (modeState i s).fetched = modeFetched i.operand s := by
  simp only [modeState, addrMode_fetched]
  cases i.operand <;> simp [modeFetched, Operand.mode]
@[simp] theorem modeState_resetSeen (i : Instr) (s : State) : (modeState i s).resetSeen = s.resetSeen := by simp [modeState]
@[simp] theorem modeState_config (i : Instr) (s : State) : (modeState i s).config = s.config := by simp [modeState]
@[simp] theorem modeState_inputs (i : Instr) (s : State) : (modeState i s).inputs = s.inputs := by simp [modeState]
@[simp] theorem modeState_read (i : Instr) (s : State) (a : Addr) : (modeState i s).read a = s.read a := by simp [modeState]

/-- When the operation runs, `PC` is the address of the next instruction (40_sequencer.md R112). -/
@[simp] theorem modeState_pc (i : Instr) (s : State) : (modeState i s).pc = nextPc i s := by
  simp only [modeState, addrMode_pc, startInstr_pc, nextPc, Instr.length, BitVec.ofNat_add, BitVec.add_assoc]
  rfl

/-- `Fetch()` after the mode returns the operand byte (41_addressing_modes.md R143). -/
@[simp] theorem operandByte_modeState (i : Instr) (s : State) :
    operandByte i.operand (modeState i s) = operandOf i s := by
  unfold operandOf modeState resolved
  generalize i.opcode = b
  cases i.operand <;> simp [operandByte, modeFetched, Operand.mode]

/-! ### Frames -/

/-- The frame that names nothing. -/
theorem FrameBut.refl (s : State) : FrameBut [] [] [] s s :=
  ⟨fun _ _ => rfl, fun _ _ => rfl, fun _ _ => rfl, rfl, rfl, rfl⟩

/-- A frame from its parts, register by register: what most instructions show. -/
theorem FrameBut.of_fields {regs : List Reg} {flags : List Flag} {cells : List Addr} {s t : State}
    (ha : .A ∈ regs ∨ t.a = s.a) (hx : .X ∈ regs ∨ t.x = s.x) (hy : .Y ∈ regs ∨ t.y = s.y)
    (hsp : .SP ∈ regs ∨ t.sp = s.sp) (hf : ∀ f, f ∉ flags → getFlag t.p f = getFlag s.p f)
    (hm : ∀ a, a ∉ cells → t.read a = s.read a) (hc : t.config = s.config)
    (hr : t.resetSeen = s.resetSeen) (hi : t.inputs = s.inputs) : FrameBut regs flags cells s t where
  reg r hr := by cases r <;> first | exact ha.resolve_left hr | exact hx.resolve_left hr
                                   | exact hy.resolve_left hr | exact hsp.resolve_left hr
  flag := hf
  mem := hm
  config := hc
  resetSeen := hr
  inputs := hi

/-! ### The stack cells of the claims -/

/-- `0x0100 + sp` is `0x01 ## sp` (20_memory.md R57). -/
theorem stackCell_eq (sp : Byte) : stackCell sp = stackAddr sp := by
  revert sp
  decide

/-- Two stack cells are equal only for equal stack pointers. -/
theorem stackCell_inj {p q : Byte} : stackCell p = stackCell q ↔ p = q := by
  rw [stackCell_eq, stackCell_eq, stackAddr_inj]

/-! ### Fields no operation writes, and memory after the rest -/

@[simp] theorem returnFromInterrupt_read (s : State) (a : Addr) :
    (returnFromInterrupt s).read a = s.read a := read_congr (returnFromInterrupt_mem s) a

@[simp] theorem branch_read (c : Bool) (s : State) (a : Addr) : (branch c s).read a = s.read a :=
  read_congr (branch_mem c s) a

/-- `opcode` after an instruction is its opcode byte (10_state.md R38). -/
theorem exec_opcode {i : Instr} {s t : State} (h : exec i s = .next t) : t.opcode = i.opcode := by
  rw [eq_of_exec h]
  cases i.op <;> simp [meaningOf, opLda, opLdx, opLdy, opSta, opStx, opSty, opAdc, opSbc, opCmp, opCpx,
    opCpy, opAnd, opOra, opEor, opBit, opAsl, opLsr, opRol, opRor, opInc, opDec, opInx, opDex, opIny, opDey,
    opBcc, opBcs, opBeq, opBne, opBmi, opBpl, opBvc, opBvs, opJmp, opJsr, opRts, opPha, opPhp, opPla, opPlp,
    opSec, opClc, opSed, opCld, opSei, opCli, opClv, opTax, opTay, opTxa, opTya, opTsx, opTxs, opBrk, opRti,
    opNop, opXxx, loadByte, addCore, compareWith, logicResult, shiftWith, modifyMemory, popWordState]

/-- `addr_abs` after an instruction is what its mode resolved (10_state.md R36). -/
theorem exec_addrAbs {i : Instr} {s t : State} (h : exec i s = .next t) : t.addrAbs = resolved i s := by
  rw [eq_of_exec h]
  cases i.op <;> simp [meaningOf, opLda, opLdx, opLdy, opSta, opStx, opSty, opAdc, opSbc, opCmp, opCpx,
    opCpy, opAnd, opOra, opEor, opBit, opAsl, opLsr, opRol, opRor, opInc, opDec, opInx, opDex, opIny, opDey,
    opBcc, opBcs, opBeq, opBne, opBmi, opBpl, opBvc, opBvs, opJmp, opJsr, opRts, opPha, opPhp, opPla, opPlp,
    opSec, opClc, opSed, opCld, opSei, opCli, opClv, opTax, opTay, opTxa, opTya, opTsx, opTxs, opBrk, opRti,
    opNop, opXxx, loadByte, addCore, compareWith, logicResult, shiftWith, modifyMemory, popWordState]

/-- `addr_rel` after an instruction is what its mode left (10_state.md R37). -/
theorem exec_addrRel {i : Instr} {s t : State} (h : exec i s = .next t) :
    t.addrRel = modeAddrRel i.operand s := by
  rw [eq_of_exec h]
  cases i.op <;> simp [meaningOf, opLda, opLdx, opLdy, opSta, opStx, opSty, opAdc, opSbc, opCmp, opCpx,
    opCpy, opAnd, opOra, opEor, opBit, opAsl, opLsr, opRol, opRor, opInc, opDec, opInx, opDex, opIny, opDey,
    opBcc, opBcs, opBeq, opBne, opBmi, opBpl, opBvc, opBvs, opJmp, opJsr, opRts, opPha, opPhp, opPla, opPlp,
    opSec, opClc, opSed, opCld, opSei, opCli, opClv, opTax, opTay, opTxa, opTya, opTsx, opTxs, opBrk, opRti,
    opNop, opXxx, loadByte, addCore, compareWith, logicResult, shiftWith, modifyMemory, popWordState]

/-- No instruction writes the parameters, the inputs, or whether a `Reset` has happened. -/
theorem exec_outside {i : Instr} {s t : State} (h : exec i s = .next t) :
    t.config = s.config ∧ t.inputs = s.inputs ∧ t.resetSeen = s.resetSeen := by
  rw [eq_of_exec h]
  cases i.op <;> simp [meaningOf, opLda, opLdx, opLdy, opSta, opStx, opSty, opAdc, opSbc, opCmp, opCpx,
    opCpy, opAnd, opOra, opEor, opBit, opAsl, opLsr, opRol, opRor, opInc, opDec, opInx, opDex, opIny, opDey,
    opBcc, opBcs, opBeq, opBne, opBmi, opBpl, opBvc, opBvs, opJmp, opJsr, opRts, opPha, opPhp, opPla, opPlp,
    opSec, opClc, opSed, opCld, opSei, opCli, opClv, opTax, opTay, opTxa, opTya, opTsx, opTxs, opBrk, opRti,
    opNop, opXxx, loadByte, addCore, compareWith, logicResult, shiftWith, modifyMemory, popWordState]

/-- No event writes the parameters or the inputs. -/
theorem event_outside {e : Event} {s t : State} (h : event e s = .next t) :
    t.config = s.config ∧ t.inputs = s.inputs := by
  rcases event_cases h with ⟨-, -, -, u, hu, rfl⟩ | ⟨-, -, -, rfl⟩ | ⟨-, rfl⟩ | ⟨-, -, -, rfl⟩ | ⟨-, -, -, rfl⟩ |
    ⟨a, v, -, rfl⟩
  · exact ⟨(exec_outside hu).1, (exec_outside hu).2.1⟩
  · exact ⟨rfl, rfl⟩
  · exact ⟨rfl, rfl⟩
  · unfold doIrq acceptRequest; split <;> simp
  · simp [doNmi, acceptRequest]
  · exact ⟨rfl, rfl⟩

/-! ### Decoding what stands at `PC` -/

/-- When the three bytes at `PC` decode to `i`, `i` is what the boundary `Clock` runs. -/
theorem fetchInstr_of_decode {s : State} {i : Instr} {rest : List Byte}
    (hd : decode [s.read s.pc, s.read (s.pc + 1), s.read (s.pc + 2)] = .instr i rest) :
    fetchInstr s = i := by
  have h2 : (modeOf (s.read s.pc)).operandBytes ≤ 2 := by cases modeOf (s.read s.pc) <;> decide
  rw [decode_cons _ _ (by simpa using h2)] at hd
  injection hd

/-! ### Runs -/

/-- One step. -/
theorem runSteps_one (s : State) : runSteps 1 s = step s := by
  simp only [runSteps]; cases step s <;> rfl

/-- A run that begins with a next state goes on from it. -/
theorem runSteps_succ {s t : State} (k : Nat) (h : step s = .next t) :
    runSteps (k + 1) s = runSteps k t := by
  rw [runSteps, h]

end Sys2Proof.Machine
end

