-- ==== Sys2Proof/Tests/Slice0.lean ====
section
/-! SUPPORT. The model's own tests: ill-formed terms refused, words of the spec's encoding decoded, one
step per test with the results of spec/95_test_vectors.md, and a witness for the hypotheses of each
statement of Certificates/Slice0/Obligations.lean. -/

namespace Sys2Proof.Tests

-- One thread for each waiting kernel evaluation would be more threads than the check allows.
set_option Elab.async false

open Sys2Proof Sys2Proof.Machine

/-- The state before of 95_test_vectors.md: that of a `Reset` after its eight clocks, at 0x0200. -/
def base : State := { State.reset with pc := 0x0200, cycles := 0 }

/-- The parameter value V3.20 names. -/
def wrapConfig : Config := { Config.default with indirectPageWrap := true }

/-- One step with memory `m`. -/
def ran (m : Memory) (s : State) : State := nextOr (step { s with mem := m }) s

/-- A state that holds the bytes of one instruction at 0x0200. -/
def with3 (b0 b1 b2 : Byte) (s : State) : State :=
  { s with mem := [(0x0200, b0), (0x0201, b1), (0x0202, b2)] }

/-! ### Well-formedness -/

theorem test_wf_placeholder : (Instr.unimplemented 0x02).wf = true := by decide
theorem test_wf_refuses_assigned_byte : (Instr.unimplemented 0xA9).wf = false := by decide
theorem test_wf_refuses_brk_byte : (Instr.unimplemented 0x00).wf = false := by decide
theorem test_wf_accepts_every_operand : (Instr.ldaImm 0xFF).wf = true ∧ (Instr.jmpInd 0xFFFF).wf = true := by decide

/-! ### Decoding: words of 30_encoding.md R88, bit by bit where it says so -/

/-- 1010 1001, then the operand (R88: LDA IMM A9). -/
theorem test_decode_load : decode [0b10101001, 0x7F] = .instr (.ldaImm 0x7F) [] := by decide
/-- 1001 0110 (R88: STX ZPY 96). -/
theorem test_decode_store : decode [0b10010110, 0x10] = .instr (.stxZpy 0x10) [] := by decide
/-- 0111 1101, low byte first (R88: ADC ABX 7D). -/
theorem test_decode_arithmetic : decode [0b01111101, 0x34, 0x12] = .instr (.adcAbx 0x1234) [] := by decide
/-- 1101 0001 (R88: CMP IZY D1). -/
theorem test_decode_compare : decode [0b11010001, 0x40] = .instr (.cmpIzy 0x40) [] := by decide
/-- 0010 1100 (R88: BIT ABS 2C). -/
theorem test_decode_logical : decode [0b00101100, 0x34, 0x12] = .instr (.bitAbs 0x1234) [] := by decide
/-- 0110 1010 (R88: ROR IMP 6A). -/
theorem test_decode_shift : decode [0b01101010, 0x10] = .instr .rorImp [0x10] := by decide
/-- 1100 1110 (R88: DEC ABS CE). -/
theorem test_decode_inc_dec : decode [0b11001110, 0x00, 0x03] = .instr (.decAbs 0x0300) [] := by decide
/-- 0101 0000 (R88: BVC REL 50). -/
theorem test_decode_branch : decode [0b01010000, 0x80] = .instr (.bvc 0x80) [] := by decide
/-- 0110 1100 and 0010 0000 (R88: JMP IND 6C, JSR ABS 20). -/
theorem test_decode_jump :
    decode [0b01101100, 0xFF, 0x12] = .instr (.jmpInd 0x12FF) [] ∧
      decode [0b00100000, 0x0C, 0x80] = .instr (.jsr 0x800C) [] := by decide
/-- 0010 1000 and 1001 1010 (R88: PLP IMP 28, TXS IMP 9A). -/
theorem test_decode_stack_and_transfer :
    decode [0b00101000] = .instr .plp [] ∧ decode [0b10011010] = .instr .txs [] := by decide
/-- 0000 0000 and 0100 0000 (R88: BRK IMP 00, RTI IMP 40). -/
theorem test_decode_system :
    decode [0b00000000, 0xFF] = .instr .brk [0xFF] ∧ decode [0b01000000] = .instr .rti [] := by decide
/-- R89: an unassigned byte is one byte long. -/
theorem test_decode_placeholder : decode [0x1C, 0x34, 0x12] = .instr (.unimplemented 0x1C) [0x34, 0x12] := by decide
theorem test_decode_rejects_nothing : decode [] = .reject .noOpcodeByte := by decide
theorem test_decode_rejects_a_cut_off_instruction :
    decode [0xAD, 0x34] = .reject (.missingOperandBytes 2 1) := by decide
/-- The word numbering of spec/opcode_table.json: the second byte is bits 15 to 8. -/
theorem test_decodeTableWord :
    decodeTableWord 24 0x1234AD = some (.ldaAbs 0x1234) ∧ decodeTableWord 8 0xAD = some (.ldaAbs 0x0000) := by
  decide
/-- A placed word is the next instruction a step runs. -/
theorem test_withFetchWord :
    let t := nextOr (step (State.reset.withFetchWord 16 0x7FA9)) State.reset
    t.a = 0x7F ∧ t.pc = 0x8002 ∧ t.opcode = 0xA9 := by decide +kernel

/-! ### One step each, from 95_test_vectors.md -/

/-- V3.7 of 95_test_vectors.md. -/
theorem test_lda_absoluteX_page_cross :
    let t := ran [(0x0200, 0xBD), (0x0201, 0x01), (0x0202, 0x12), (0x1300, 0x03)] { base with x := 0xFF }
    t.a = 0x03 ∧ t.cycles = 4 := by decide +kernel

/-- V3.15 of 95_test_vectors.md. -/
theorem test_lda_indirectIndexedY_page_cross :
    let t := ran [(0x0010, 0xFF), (0x0011, 0x12), (0x0200, 0xB1), (0x0201, 0x10), (0x1300, 0x09)] { base with y := 0x01 }
    t.a = 0x09 ∧ t.cycles = 5 := by decide +kernel

/-- V3.4 of 95_test_vectors.md. -/
theorem test_ldx_zeroPageY_wraps :
    let t := ran [(0x0001, 0x55), (0x0101, 0x66), (0x0200, 0xB6), (0x0201, 0xFF)] { base with y := 0x02 }
    t.x = 0x55 ∧ t.cycles = 3 := by decide +kernel

/-- V4.5 of 95_test_vectors.md. -/
theorem test_ldx_clears_z_and_n :
    let t := ran [(0x0010, 0x01), (0x0200, 0xA6), (0x0201, 0x10)] { base with p := 0xA3 }
    t.x = 0x01 ∧ t.p = 0x21 ∧ t.cycles = 2 := by decide +kernel

/-- V4.6 of 95_test_vectors.md. -/
theorem test_ldy_absolute :
    let t := ran [(0x0000, 0x0A), (0x0200, 0xAC), (0x0201, 0x00), (0x0202, 0x00)] base
    t.y = 0x0A ∧ t.cycles = 3 := by decide +kernel

/-- V3.10 of 95_test_vectors.md. -/
theorem test_sta_absoluteX_no_extra_cycle :
    let t := ran [(0x0200, 0x9D), (0x0201, 0x01), (0x0202, 0x12)] { base with a := 0x77, x := 0xFF }
    t.p = 0x20 ∧ t.read 0x1300 = 0x77 ∧ t.cycles = 4 := by decide +kernel

/-- V4.11 of 95_test_vectors.md. -/
theorem test_sta_over_its_own_opcode :
    let t := ran [(0x0200, 0x8D), (0x0201, 0x00), (0x0202, 0x02)] { base with a := 0xEA }
    t.p = 0x20 ∧ t.read 0x0200 = 0xEA ∧ t.cycles = 3 := by decide +kernel

/-- V4.9 of 95_test_vectors.md. -/
theorem test_stx_zeroPageY :
    let t := ran [(0x0200, 0x96), (0x0201, 0x10)] { base with x := 0x80, y := 0x05 }
    t.read 0x0015 = 0x80 ∧ t.cycles = 3 := by decide +kernel

/-- V4.10 of 95_test_vectors.md. -/
theorem test_sty_zeroPageX :
    let t := ran [(0x0200, 0x94), (0x0201, 0x10)] { base with x := 0x05, y := 0x80 }
    t.read 0x0015 = 0x80 ∧ t.cycles = 3 := by decide +kernel

/-- V5.2 of 95_test_vectors.md. -/
theorem test_adc_signed_overflow :
    let t := ran [(0x0200, 0x69), (0x0201, 0x50)] { base with a := 0x50 }
    t.a = 0xA0 ∧ t.p = 0xE0 ∧ t.cycles = 1 := by decide +kernel

/-- V5.6 of 95_test_vectors.md. -/
theorem test_adc_carry_in_and_out :
    let t := ran [(0x0200, 0x69), (0x0201, 0xFF)] { base with a := 0xFF, p := 0x21 }
    t.p = 0xA1 ∧ t.cycles = 1 := by decide +kernel

/-- V5.10 of 95_test_vectors.md. -/
theorem test_sbc_signed_overflow :
    let t := ran [(0x0200, 0xE9), (0x0201, 0xB0)] { base with a := 0x50, p := 0x21 }
    t.a = 0xA0 ∧ t.p = 0xE0 ∧ t.cycles = 1 := by decide +kernel

/-- V5.12 of 95_test_vectors.md. -/
theorem test_sbc_borrow_in :
    let t := ran [(0x0200, 0xE9), (0x0201, 0x03)] { base with a := 0x05 }
    t.a = 0x01 ∧ t.p = 0x21 ∧ t.cycles = 1 := by decide +kernel

/-- V5.17 of 95_test_vectors.md. -/
theorem test_cmp_keeps_v :
    let t := ran [(0x0200, 0xC9), (0x0201, 0x01)] { base with a := 0x80, p := 0x60 }
    t.p = 0x61 ∧ t.cycles = 1 := by decide +kernel

/-- V5.19 of 95_test_vectors.md. -/
theorem test_cmp_absoluteX_page_cross :
    let t := ran [(0x0200, 0xDD), (0x0201, 0x01), (0x0202, 0x12), (0x1300, 0x10)] { base with a := 0x10, x := 0xFF }
    t.p = 0x23 ∧ t.cycles = 4 := by decide +kernel

/-- V5.21 of 95_test_vectors.md. -/
theorem test_cpx_smaller :
    let t := ran [(0x0010, 0x04), (0x0200, 0xE4), (0x0201, 0x10)] { base with x := 0x03 }
    t.p = 0xA0 ∧ t.cycles = 2 := by decide +kernel

/-- V5.23 of 95_test_vectors.md. -/
theorem test_cpy_absolute :
    let t := ran [(0x0200, 0xCC), (0x0201, 0x34), (0x0202, 0x12), (0x1234, 0x80)] base
    t.p = 0xA0 ∧ t.cycles = 3 := by decide +kernel

/-- V6.7 of 95_test_vectors.md. -/
theorem test_and_absoluteX :
    let t := ran [(0x0200, 0x3D), (0x0201, 0x01), (0x0202, 0x12), (0x1300, 0x81)] { base with a := 0xFF, x := 0xFF }
    t.a = 0x81 ∧ t.p = 0xA0 ∧ t.cycles = 4 := by decide +kernel

/-- V6.4 of 95_test_vectors.md. -/
theorem test_ora_zero :
    let t := ran [(0x0200, 0x09), (0x0201, 0x00)] { base with p := 0xA0 }
    t.p = 0x22 ∧ t.cycles = 1 := by decide +kernel

/-- V6.5 of 95_test_vectors.md. -/
theorem test_eor_immediate :
    let t := ran [(0x0200, 0x49), (0x0201, 0xFF)] { base with a := 0x55 }
    t.a = 0xAA ∧ t.p = 0xA0 ∧ t.cycles = 1 := by decide +kernel

/-- V6.8 of 95_test_vectors.md. -/
theorem test_bit_sets_n_v_z :
    let t := ran [(0x0010, 0xF0), (0x0200, 0x24), (0x0201, 0x10)] { base with a := 0x0F }
    t.p = 0xE2 ∧ t.pc = 0x0202 ∧ t.cycles = 2 := by decide +kernel

/-- V6.9 of 95_test_vectors.md. -/
theorem test_bit_clears_n_v_z :
    let t := ran [(0x0010, 0x3F), (0x0200, 0x24), (0x0201, 0x10)] { base with a := 0xFF, p := 0xE0 }
    t.p = 0x20 ∧ t.pc = 0x0202 ∧ t.cycles = 2 := by decide +kernel

/-- V7.1 of 95_test_vectors.md. -/
theorem test_asl_accumulator :
    let t := ran [(0x0200, 0x0A)] { base with a := 0x81 }
    t.a = 0x02 ∧ t.p = 0x21 ∧ t.cycles = 1 := by decide +kernel

/-- V7.9 of 95_test_vectors.md. -/
theorem test_asl_memory_leaves_a :
    let t := ran [(0x0010, 0x55), (0x0200, 0x06), (0x0201, 0x10)] { base with a := 0x11 }
    t.a = 0x11 ∧ t.p = 0xA0 ∧ t.read 0x0010 = 0xAA ∧ t.cycles = 4 := by decide +kernel

/-- V7.4 of 95_test_vectors.md. -/
theorem test_lsr_clears_n :
    let t := ran [(0x0200, 0x4A)] { base with a := 0xFF, p := 0xA0 }
    t.a = 0x7F ∧ t.p = 0x21 ∧ t.cycles = 1 := by decide +kernel

/-- V7.10 of 95_test_vectors.md. -/
theorem test_lsr_absoluteX :
    let t := ran [(0x0200, 0x5E), (0x0201, 0x01), (0x0202, 0x12), (0x1300, 0x03)] { base with x := 0xFF }
    t.p = 0x21 ∧ t.read 0x1300 = 0x01 ∧ t.cycles = 6 := by decide +kernel

/-- V7.6 of 95_test_vectors.md. -/
theorem test_rol_shifts_in_carry_0 :
    let t := ran [(0x0200, 0x2A)] { base with a := 0x40 }
    t.a = 0x80 ∧ t.p = 0xA0 ∧ t.cycles = 1 := by decide +kernel

/-- V7.11 of 95_test_vectors.md. -/
theorem test_rol_absolute_shifts_in_carry_1 :
    let t := ran [(0x0200, 0x2E), (0x0201, 0x34), (0x0202, 0x12), (0x1234, 0x7F)] { base with p := 0x21 }
    t.p = 0xA0 ∧ t.read 0x1234 = 0xFF ∧ t.cycles = 5 := by decide +kernel

/-- V7.7 of 95_test_vectors.md. -/
theorem test_ror_shifts_in_carry_1 :
    let t := ran [(0x0200, 0x6A)] { base with a := 0x01, p := 0x21 }
    t.a = 0x80 ∧ t.p = 0xA1 ∧ t.cycles = 1 := by decide +kernel

/-- V7.12 of 95_test_vectors.md. -/
theorem test_ror_zeroPageX :
    let t := ran [(0x0011, 0x00), (0x0200, 0x76), (0x0201, 0x10)] { base with x := 0x01, p := 0x21 }
    t.p = 0xA0 ∧ t.read 0x0011 = 0x80 ∧ t.cycles = 5 := by decide +kernel

/-- V8.1 of 95_test_vectors.md. -/
theorem test_inc_wraps_and_keeps_c :
    let t := ran [(0x0010, 0xFF), (0x0200, 0xE6), (0x0201, 0x10)] { base with p := 0x21 }
    t.p = 0x23 ∧ t.read 0x0010 = 0x00 ∧ t.cycles = 4 := by decide +kernel

/-- V8.3 of 95_test_vectors.md. -/
theorem test_dec_wraps :
    let t := ran [(0x0010, 0x00), (0x0200, 0xC6), (0x0201, 0x10)] base
    t.p = 0xA0 ∧ t.read 0x0010 = 0xFF ∧ t.cycles = 4 := by decide +kernel

/-- V8.5 of 95_test_vectors.md. -/
theorem test_inx_wraps :
    let t := ran [(0x0200, 0xE8)] { base with x := 0xFF }
    t.x = 0x00 ∧ t.p = 0x22 ∧ t.cycles = 1 := by decide +kernel

/-- V8.6 of 95_test_vectors.md. -/
theorem test_dex_wraps :
    let t := ran [(0x0200, 0xCA)] base
    t.x = 0xFF ∧ t.p = 0xA0 ∧ t.cycles = 1 := by decide +kernel

/-- V8.7 of 95_test_vectors.md. -/
theorem test_iny_sign :
    let t := ran [(0x0200, 0xC8)] { base with y := 0x7F }
    t.y = 0x80 ∧ t.p = 0xA0 ∧ t.cycles = 1 := by decide +kernel

/-- V8.8 of 95_test_vectors.md. -/
theorem test_dey_zero :
    let t := ran [(0x0200, 0x88)] { base with y := 0x01 }
    t.y = 0x00 ∧ t.p = 0x22 ∧ t.cycles = 1 := by decide +kernel

/-- V9.1 of 95_test_vectors.md. -/
theorem test_bne_taken_backward :
    let t := ran [(0x8014, 0xD0), (0x8015, 0xFA)] { base with pc := 0x8014 }
    t.pc = 0x8010 ∧ t.cycles = 2 := by decide +kernel

/-- V9.20 of 95_test_vectors.md. -/
theorem test_bne_page_cross_from_the_next_instruction :
    let t := ran [(0x80FE, 0xD0), (0x80FF, 0xFE)] { base with pc := 0x80FE }
    t.pc = 0x80FE ∧ t.cycles = 3 := by decide +kernel

/-- V9.3 of 95_test_vectors.md. -/
theorem test_beq_taken :
    let t := ran [(0x8000, 0xF0), (0x8001, 0x10)] { base with pc := 0x8000, p := 0x22 }
    t.pc = 0x8012 ∧ t.cycles = 2 := by decide +kernel

/-- V9.6 of 95_test_vectors.md. -/
theorem test_bcc_not_taken :
    let t := ran [(0x8000, 0x90), (0x8001, 0x7F)] { base with pc := 0x8000, p := 0x21 }
    t.pc = 0x8002 ∧ t.cycles = 1 := by decide +kernel

/-- V9.7 of 95_test_vectors.md. -/
theorem test_bcs_taken_page_cross :
    let t := ran [(0x8000, 0xB0), (0x8001, 0x80)] { base with pc := 0x8000, p := 0x21 }
    t.pc = 0x7F82 ∧ t.cycles = 3 := by decide +kernel

/-- V9.9 of 95_test_vectors.md. -/
theorem test_bmi_taken :
    let t := ran [(0x8000, 0x30), (0x8001, 0x02)] { base with pc := 0x8000, p := 0xA0 }
    t.pc = 0x8004 ∧ t.cycles = 2 := by decide +kernel

/-- V9.12 of 95_test_vectors.md. -/
theorem test_bpl_not_taken :
    let t := ran [(0x8000, 0x10), (0x8001, 0x02)] { base with pc := 0x8000, p := 0xA0 }
    t.pc = 0x8002 ∧ t.cycles = 1 := by decide +kernel

/-- V9.13 of 95_test_vectors.md. -/
theorem test_bvc_taken :
    let t := ran [(0x8000, 0x50), (0x8001, 0x02)] { base with pc := 0x8000 }
    t.pc = 0x8004 ∧ t.cycles = 2 := by decide +kernel

/-- V9.16 of 95_test_vectors.md. -/
theorem test_bvs_not_taken :
    let t := ran [(0x8000, 0x70), (0x8001, 0x02)] { base with pc := 0x8000 }
    t.pc = 0x8002 ∧ t.cycles = 1 := by decide +kernel

/-- V9.23 of 95_test_vectors.md. -/
theorem test_jmp_absolute :
    let t := ran [(0x0200, 0x4C), (0x0201, 0x34), (0x0202, 0x12)] base
    t.pc = 0x1234 ∧ t.cycles = 2 := by decide +kernel

/-- V3.20 of 95_test_vectors.md. -/
theorem test_jmp_indirect_page_wrap :
    let t := ran [(0x0200, 0x6C), (0x0201, 0xFF), (0x0202, 0x12), (0x1200, 0x9A), (0x12FF, 0x78), (0x1300, 0x56)] { base with config := wrapConfig }
    t.pc = 0x9A78 ∧ t.cycles = 4 := by decide +kernel

/-- V9.29 of 95_test_vectors.md. -/
theorem test_jsr_stack_wraps :
    let t := ran [(0x0340, 0x20), (0x0341, 0x00), (0x0342, 0x05)] { base with pc := 0x0340, sp := 0x00 }
    t.sp = 0xFE ∧ t.pc = 0x0500 ∧ t.read 0x0100 = 0x03 ∧ t.read 0x01FF = 0x42 ∧ t.cycles = 5 := by decide +kernel

/-- V9.28 of 95_test_vectors.md. -/
theorem test_rts_pc_wraps :
    let t := ran [(0x01FC, 0xFF), (0x01FD, 0xFF), (0x0200, 0x60)] { base with sp := 0xFB }
    t.sp = 0xFD ∧ t.pc = 0x0000 ∧ t.cycles = 5 := by decide +kernel

/-- V10.2 of 95_test_vectors.md. -/
theorem test_pha_stack_wraps :
    let t := ran [(0x0200, 0x48)] { base with a := 0x42, sp := 0x00 }
    t.sp = 0xFF ∧ t.read 0x0100 = 0x42 ∧ t.cycles = 2 := by decide +kernel

/-- V10.3 of 95_test_vectors.md. -/
theorem test_php_leaves_p :
    let t := ran [(0x0200, 0x08)] { base with p := 0x23 }
    t.sp = 0xFC ∧ t.p = 0x23 ∧ t.read 0x01FD = 0x33 ∧ t.cycles = 2 := by decide +kernel

/-- V10.5 of 95_test_vectors.md. -/
theorem test_pla_negative :
    let t := ran [(0x01FD, 0x80), (0x0200, 0x68)] { base with sp := 0xFC }
    t.a = 0x80 ∧ t.sp = 0xFD ∧ t.p = 0xA0 ∧ t.cycles = 3 := by decide +kernel

/-- V10.9 of 95_test_vectors.md. -/
theorem test_plp_keeps_popped_b :
    let t := ran [(0x01FD, 0x10), (0x0200, 0x28)] { base with sp := 0xFC }
    t.sp = 0xFD ∧ t.p = 0x30 ∧ t.cycles = 3 := by decide +kernel

/-- V10.11 of 95_test_vectors.md. -/
theorem test_sec :
    let t := ran [(0x0200, 0x38)] base
    t.p = 0x21 ∧ t.cycles = 1 := by decide +kernel

/-- V10.12 of 95_test_vectors.md. -/
theorem test_clc :
    let t := ran [(0x0200, 0x18)] { base with p := 0x23 }
    t.p = 0x22 ∧ t.cycles = 1 := by decide +kernel

/-- V10.13 of 95_test_vectors.md. -/
theorem test_sed :
    let t := ran [(0x0200, 0xF8)] base
    t.p = 0x28 ∧ t.cycles = 1 := by decide +kernel

/-- V10.14 of 95_test_vectors.md. -/
theorem test_cld :
    let t := ran [(0x0200, 0xD8)] { base with p := 0x28 }
    t.p = 0x20 ∧ t.cycles = 1 := by decide +kernel

/-- V10.15 of 95_test_vectors.md. -/
theorem test_sei :
    let t := ran [(0x0200, 0x78)] base
    t.p = 0x24 ∧ t.cycles = 1 := by decide +kernel

/-- V10.16 of 95_test_vectors.md. -/
theorem test_cli :
    let t := ran [(0x0200, 0x58)] { base with p := 0x24 }
    t.p = 0x20 ∧ t.cycles = 1 := by decide +kernel

/-- V10.17 of 95_test_vectors.md. -/
theorem test_clv :
    let t := ran [(0x0200, 0xB8)] { base with p := 0x60 }
    t.p = 0x20 ∧ t.cycles = 1 := by decide +kernel

/-- V10.18 of 95_test_vectors.md. -/
theorem test_tax_zero :
    let t := ran [(0x0200, 0xAA)] { base with x := 0x11 }
    t.x = 0x00 ∧ t.p = 0x22 ∧ t.cycles = 1 := by decide +kernel

/-- V10.19 of 95_test_vectors.md. -/
theorem test_tay_negative :
    let t := ran [(0x0200, 0xA8)] { base with a := 0x90 }
    t.y = 0x90 ∧ t.p = 0xA0 ∧ t.cycles = 1 := by decide +kernel

/-- V10.20 of 95_test_vectors.md. -/
theorem test_txa :
    let t := ran [(0x0200, 0x8A)] { base with a := 0x80, x := 0x7F, p := 0xA0 }
    t.a = 0x7F ∧ t.p = 0x20 ∧ t.cycles = 1 := by decide +kernel

/-- V10.21 of 95_test_vectors.md. -/
theorem test_tya :
    let t := ran [(0x0200, 0x98)] { base with y := 0xFF }
    t.a = 0xFF ∧ t.p = 0xA0 ∧ t.cycles = 1 := by decide +kernel

/-- V10.22 of 95_test_vectors.md. -/
theorem test_tsx :
    let t := ran [(0x0200, 0xBA)] base
    t.x = 0xFD ∧ t.p = 0xA0 ∧ t.cycles = 1 := by decide +kernel

/-- V10.24 of 95_test_vectors.md. -/
theorem test_txs_no_flags :
    let t := ran [(0x0200, 0x9A)] { base with x := 0xFF }
    t.sp = 0xFF ∧ t.p = 0x20 ∧ t.cycles = 1 := by decide +kernel

/-- V11.1 of 95_test_vectors.md. -/
theorem test_brk :
    let t := ran [(0x8000, 0x00), (0x8001, 0xFF), (0xFFFE, 0x00), (0xFFFF, 0x90)] { base with pc := 0x8000 }
    t.sp = 0xFA ∧ t.p = 0x24 ∧ t.pc = 0x9000 ∧ t.read 0x01FD = 0x80 ∧ t.read 0x01FC = 0x02 ∧ t.read 0x01FB = 0x34 ∧ t.cycles = 6 := by decide +kernel

/-- V11.4 of 95_test_vectors.md. -/
theorem test_brk_at_the_top_of_memory :
    let t := ran [(0xFFFE, 0x00), (0xFFFF, 0x00)] { base with pc := 0xFFFF }
    t.sp = 0xFA ∧ t.p = 0x24 ∧ t.pc = 0x0000 ∧ t.read 0x01FD = 0x00 ∧ t.read 0x01FC = 0x01 ∧ t.read 0x01FB = 0x34 ∧ t.cycles = 6 := by decide +kernel

/-- V11.7 of 95_test_vectors.md. -/
theorem test_rti_masks_b_and_sets_u :
    let t := ran [(0x01FB, 0xDF), (0x01FC, 0xFF), (0x01FD, 0xFF), (0x9000, 0x40)] { base with pc := 0x9000, sp := 0xFA }
    t.sp = 0xFD ∧ t.p = 0xEF ∧ t.pc = 0xFFFF ∧ t.cycles = 5 := by decide +kernel

/-- V11.9 of 95_test_vectors.md. -/
theorem test_nop :
    let t := ran [(0x8019, 0xEA)] { base with pc := 0x8019, a := 0x1E }
    t.cycles = 1 := by decide +kernel

/-- V11.11 of 95_test_vectors.md. -/
theorem test_placeholder_in_extraNopOpcodes :
    let t := ran [(0x8000, 0x1C), (0x8001, 0x34), (0x8002, 0x12)] { base with pc := 0x8000, x := 0xFF }
    t.pc = 0x8001 ∧ t.cycles = 1 := by decide +kernel

/-! ### Requests -/

/-- V12.1: `Reset` in mid-instruction. -/
theorem test_reset_in_mid_instruction :
    let s := { base with
      a := 0x11, sp := 0x44, p := 0xFF, addrRel := 0xFF77, opcode := 0x88, cycles := 3,
      mem := [(0xFFFC, 0x00), (0xFFFD, 0x80)] }
    let t := nextOr (event .reset s) s
    t.a = 0x00 ∧ t.sp = 0xFD ∧ t.p = 0x20 ∧ t.pc = 0x8000 ∧ t.addrRel = 0x0000 ∧ t.opcode = 0x00 ∧ t.cycles = 8 ∧
      eventBus .reset s = [busRead 0xFFFC 0x00, busRead 0xFFFD 0x80] := by decide +kernel

/-- V12.3: `Irq` with I clear. -/
theorem test_irq_accepted :
    let s := { base with pc := 0x8005, p := 0x21, mem := [(0xFFFE, 0x00), (0xFFFF, 0x90)] }
    let t := nextOr (event .irq s) s
    t.sp = 0xFA ∧ t.p = 0x25 ∧ t.pc = 0x9000 ∧ t.cycles = 7 ∧
      eventBus .irq s = [busWrite 0x01FD 0x80, busWrite 0x01FC 0x05, busWrite 0x01FB 0x21,
        busRead 0xFFFE 0x00, busRead 0xFFFF 0x90] := by decide +kernel

/-- V12.9: `Nmi` with every flag set; only B changes. -/
theorem test_nmi_not_masked :
    let s := { base with pc := 0x8005, p := 0xFF, mem := [(0xFFFE, 0x00), (0xFFFF, 0x90)] }
    let t := nextOr (event .nmi s) s
    t.sp = 0xFA ∧ t.p = 0xEF ∧ t.pc = 0x9000 ∧ t.cycles = 8 ∧ t.read 0x01FB = 0xEF := by decide +kernel

/-- V12.11: `Irq` with `cycles = 2` is refused. -/
theorem test_irq_off_boundary_refused : ∃ w, event .irq { base with cycles := 2 } = .refused w := ⟨_, rfl⟩

/-- V12.12: `Clock` before any `Reset` is refused. -/
theorem test_clock_before_reset_refused : ∃ w, event .clock { base with resetSeen := false } = .refused w :=
  ⟨_, rfl⟩

/-! ### The bus and the disassembler -/

/-- The bus column of V3.11: INC AbsoluteX reads the operand, then writes it. -/
theorem test_bus_of_inc :
    let s := { base with x := 0xFF, mem := [(0x0200, 0xFE), (0x0201, 0x01), (0x0202, 0x12), (0x1300, 0x0F)] }
    eventBus .clock s = [busRead 0x0200 0xFE, busRead 0x0201 0x01, busRead 0x0202 0x12, busRead 0x1300 0x0F,
      busWrite 0x1300 0x10] := by decide +kernel

/-- V13, the line of the branch, and V13.1. -/
theorem test_disassembler_text :
    (disassembleText { base with mem := [(0x8014, 0xD0), (0x8015, 0xFA)] } 0x8014 0x8014).map (fun l => String.ofList l.2) =
        ["$8014: BNE $FA [$8010] " ++ String.ofList (bracedTag .rel)] ∧
      (disassembleText { base with mem := [(0x8001, 0x0A), (0x8002, 0x8E), (0x8003, 0x00), (0x8004, 0x00)] } 0x8001
        0x8002).map (fun l => String.ofList l.2) =
        ["$8001: ASL " ++ String.ofList (bracedTag .imp), "$8002: STX $0000 " ++ String.ofList (bracedTag .abs)] := by
  decide +kernel

/-- V13.3 and V13.4: operand bytes past the top of memory; an empty range. -/
theorem test_disassembler_edges :
    (disassembleText { base with mem := [(0x0000, 0x34), (0x0001, 0x12), (0xFFFF, 0xAD)] } 0xFFFF 0xFFFF).map
        (fun l => (l.1, String.ofList l.2)) = [(0xFFFF, "$FFFF: LDA $1234 " ++ String.ofList (bracedTag .abs))] ∧
      disassembleText base 0x9000 0x8FFF = [] := by decide +kernel

/-- The peeks behind V13.3: `bus_peek` 1 (20_memory.md R71), past the top of memory (30_encoding.md R101). -/
theorem test_bus_of_disassembler :
    disassembleBus { base with mem := [(0x0000, 0x34), (0x0001, 0x12), (0xFFFF, 0xAD)] } 0xFFFF 0xFFFF =
      [⟨0xFFFF, 0xAD, false, true⟩, ⟨0x0000, 0x34, false, true⟩, ⟨0x0001, 0x12, false, true⟩] := by decide +kernel

/-! ### Witnesses: the hypotheses of each statement, met together -/

theorem witness_ResetStateIsTheStateAfterReset :
    ∃ s : State, s.read 0xFFFC = 0x00 ∧ s.read 0xFFFD = 0x80 :=
  ⟨{ base with mem := [(0xFFFC, 0x00), (0xFFFD, 0x80)] }, by decide +kernel⟩

/-- Each clause: before a `Reset`, off a Boundary (at `cycles = 1`), and outside both. -/
theorem witness_EventsHaveANextStateOrAreRefused :
    (∃ s : State, s.resetSeen = false) ∧
    (∃ s : State, s.resetSeen = true ∧ s.cycles = 1) ∧
    (∃ s : State, s.resetSeen = true ∧ s.cycles = 0) :=
  ⟨⟨{ base with resetSeen := false }, rfl⟩, ⟨{ base with cycles := 1 }, rfl, rfl⟩, ⟨base, rfl, rfl⟩⟩

theorem witness_StepIsTheNextInputsEvent :
    (∃ s : State, s.inputs = []) ∧ ∃ (s : State) (e : Event) (rest : List Event), s.inputs = e :: rest :=
  ⟨⟨base, rfl⟩, { base with inputs := [.irq] }, .irq, [], rfl⟩

/-- Two instructions: the longest, and one at the top of memory whose operand byte is at 0x0000. -/
theorem witness_StepRunsTheDecodedInstruction :
    (∃ (s : State) (i : Instr) (rest : List Byte), s.resetSeen = true ∧ s.cycles = 0 ∧ s.inputs = [] ∧
      decode [s.read s.pc, s.read (s.pc + 1), s.read (s.pc + 2)] = .instr i rest) ∧
    (∃ s : State, s.pc = 0xFFFF ∧ s.resetSeen = true ∧ s.cycles = 0 ∧ s.inputs = [] ∧
      decode [s.read s.pc, s.read (s.pc + 1), s.read (s.pc + 2)] = .instr (.ldaImm 0x42) [0x00]) :=
  ⟨⟨with3 0xAD 0x34 0x12 base, .ldaAbs 0x1234, [], by decide +kernel⟩,
    { base with pc := 0xFFFF, mem := [(0x0000, 0x42), (0x0001, 0x00), (0xFFFF, 0xA9)] }, by decide +kernel⟩

theorem witness_InFlightClockOnlyCountsDown :
    (∃ s : State, s.resetSeen = true ∧ s.cycles = 0 + 1) ∧ ∃ s : State, s.resetSeen = true ∧ s.cycles = 7 + 1 :=
  ⟨⟨{ base with cycles := 1 }, rfl, rfl⟩, State.reset, rfl, rfl⟩

/-- With `UNIMPL_CYCLES` at its least value. -/
theorem witness_InstructionsTakeTheirCycles :
    ∃ s t : State, s.resetSeen = true ∧ s.cycles = 0 ∧ s.inputs = [] ∧ s.config.wf ∧ s.config.unimplCycles = 1 ∧
      exec (fetchInstr s) s = .next t :=
  let s := with3 0x02 0xEA 0xEA { base with config := { Config.default with unimplCycles := 1 } }
  ⟨s, _, rfl, rfl, rfl, by decide, rfl, (exec_isNext (fetchInstr s) s).choose_spec⟩

/-- The invariant holds at reset, from which a step goes on, and at a Boundary with B set. -/
theorem witness_EveryStepKeepsTheInvariant :
    (∃ s t : State, Inv s ∧ step s = .next t) ∧ ∃ s t : State, Inv s ∧ s.cycles = 0 ∧ s.p = 0x30 ∧ step s = .next t :=
  ⟨⟨State.reset, _, ⟨by decide, by decide, by decide, by decide, by decide⟩, rfl⟩,
    { base with p := 0x30, inputs := [.irq] }, _, ⟨by decide, by decide, by decide, by decide, by decide⟩, rfl, rfl, rfl⟩

theorem witness_MemoryIsCanonical :
    (∃ s : State, Memory.wf s.mem ∧ s.mem ≠ []) ∧
    ∃ m n : Memory, Memory.wf m ∧ Memory.wf n ∧ ∀ a, lookup m a = lookup n a :=
  ⟨⟨{ base with mem := [(0, 0x00), (65535, 0x00)] }, by decide⟩, [(7, 0x00)], [(7, 0x00)], by decide, by decide,
    fun _ => rfl⟩

theorem witness_WordsOnTheStackAreLittleEndian : ∃ s : State, s.sp = 0x01 ∧ s.sp ≠ 0x00 :=
  ⟨{ base with sp := 0x01 }, by decide⟩

theorem witness_DecodeOfEncodeIsTheInstruction :
    (Instr.ldaAbs 0xFFFF).wf = true ∧ (Instr.unimplemented 0xFF).wf = true := by decide

theorem witness_EncodeOfDecodeIsTheBytes :
    decode [0xFF, 0x00] = .instr (.unimplemented 0xFF) [0x00] ∧ decode [0x00, 0xFF] = .instr .brk [0xFF] := by decide

theorem witness_EveryByteIsAnOpcode : 2 ≤ ([0x00, 0x00] : List Byte).length := by decide

theorem witness_SimpleModesResolve :
    (Instr.ldxZpy 0x00).operand.mode = .zpy ∧ (Instr.stxZpy 0x00).operand.mode = .zpy ∧
      (Instr.bvs 0x80).operand.mode = .rel := by decide

/-- A pointer at 0xFF, where the second byte wraps; and the one Indirect instruction. -/
theorem witness_PointerModesResolve :
    (∃ (s : State) (b : Byte) (base : Addr), b = 0xFF ∧ base = join (s.read (join 0x00 (b + 1))) (s.read (join 0x00 b))) ∧
      (Instr.jmpInd 0x12FF).operand.mode = .ind :=
  ⟨⟨base, 0xFF, _, rfl, rfl⟩, by decide⟩

theorem witness_TransientFieldsFollowTheRules :
    (∃ (i : Instr) (s t : State), exec i s = .next t ∧ i.operand = .relative 0x80) ∧
    ∃ (i : Instr) (s t : State), exec i s = .next t ∧ i.operand.mode ≠ .rel :=
  ⟨⟨.bne 0x80, base, _, (exec_isNext (.bne 0x80) base).choose_spec, rfl⟩,
    .clc, base, _, (exec_isNext .clc base).choose_spec, by decide⟩

/-- With the page crossed by one (low byte plus index 256), and just not crossed (255). -/
theorem witness_PageCrossCycleIsGrantedExactly :
    (∃ (i : Instr) (s t : State), exec i s = .next t ∧
      i.op ∉ [Op.bcc, .bcs, .beq, .bne, .bmi, .bpl, .bvc, .bvs] ∧
      modeSignal i.operand (startInstr i.opcode s) = true) ∧
    ∃ (i : Instr) (s t : State), exec i s = .next t ∧
      i.op ∉ [Op.bcc, .bcs, .beq, .bne, .bmi, .bpl, .bvc, .bvs] ∧
      modeSignal i.operand (startInstr i.opcode s) = false :=
  ⟨⟨.ldaAbx 0x1201, { base with x := 0xFF }, _, (exec_isNext _ _).choose_spec, by decide, by decide +kernel⟩,
    .ldaAbx 0x1200, { base with x := 0xFF }, _, (exec_isNext _ _).choose_spec, by decide, by decide +kernel⟩

theorem witness_LoadsSetTheRegisterAndZN :
    (Instr.ldaIzy 0xFF).op = .lda ∧ (Instr.ldxAby 0xFFFF).op = .ldx ∧ (Instr.ldyImm 0x80).op = .ldy := by decide

theorem witness_StoresWriteOnlyTheResolvedByte :
    (Instr.staIzx 0xFF).op = .sta ∧ (Instr.stxZpy 0xFF).op = .stx ∧ (Instr.styAbs 0xFFFF).op = .sty := by decide

theorem witness_AdcAndSbcResults : (Instr.adcAbx 0xFFFF).op = .adc ∧ (Instr.sbcImm 0x00).op = .sbc := by decide

/-- The sums 127 and 128, and the differences -128 and -129. -/
theorem witness_OverflowIsTheSignedOutcome :
    (∃ (i : Instr) (s t : State), exec i s = .next t ∧ i.op = .adc ∧ s.a.toInt + (operandOf i s).toInt = 127) ∧
    (∃ (i : Instr) (s t : State), exec i s = .next t ∧ i.op = .adc ∧ s.a.toInt + (operandOf i s).toInt = 128) ∧
    (∃ (i : Instr) (s t : State), exec i s = .next t ∧ i.op = .sbc ∧ s.a.toInt - (operandOf i s).toInt = -128) ∧
    ∃ (i : Instr) (s t : State), exec i s = .next t ∧ i.op = .sbc ∧ s.a.toInt - (operandOf i s).toInt = -129 :=
  ⟨⟨.adcImm 0x7F, base, _, (exec_isNext _ _).choose_spec, rfl, by decide +kernel⟩,
    ⟨.adcImm 0x7F, { base with a := 0x01 }, _, (exec_isNext _ _).choose_spec, rfl, by decide +kernel⟩,
    ⟨.sbcImm 0x7F, { base with a := 0xFF }, _, (exec_isNext _ _).choose_spec, rfl, by decide +kernel⟩,
    .sbcImm 0x7F, { base with a := 0xFE }, _, (exec_isNext _ _).choose_spec, rfl, by decide +kernel⟩

theorem witness_AdcThenSbcRestoresA :
    ∃ (i j : Instr) (s t u : State), i.op = .adc ∧ j.op = .sbc ∧ getFlag s.p .C = false ∧ exec i s = .next t ∧
      operandOf j { t with p := setFlag t.p .C true } = operandOf i s ∧
      exec j { t with p := setFlag t.p .C true } = .next u :=
  ⟨.adcImm 0xFF, .sbcImm 0xFF, base, _, _, rfl, rfl, rfl, (exec_isNext _ _).choose_spec, rfl,
    (exec_isNext _ _).choose_spec⟩

theorem witness_ComparesSetCarryZeroNegative :
    (Instr.cmpIzy 0x00).op = .cmp ∧ (Instr.cpxImm 0xFF).op = .cpx ∧ (Instr.cpyZp0 0x00).op = .cpy := by decide

theorem witness_LogicalResults :
    (Instr.andImm 0x00).op = .and ∧ (Instr.oraAby 0xFFFF).op = .ora ∧ (Instr.eorZp0 0xFF).op = .eor := by decide

theorem witness_BitTestsTheOperand : (Instr.bitZp0 0xFF).op = .bit := by decide

theorem witness_ShiftsAndRotates :
    Instr.aslImp.op = .asl ∧ (Instr.lsrAbx 0xFFFF).op = .lsr ∧ Instr.rolImp.op = .rol ∧
      (Instr.rorZpx 0xFF).op = .ror ∧ Instr.aslImp.operand = .implied ∧ (Instr.lsrAbx 0xFFFF).operand ≠ .implied := by
  decide

theorem witness_IncAndDecChangeMemoryByOne :
    (Instr.incZp0 0xFF).op = .inc ∧ (Instr.decAbx 0xFFFF).op = .dec := by decide

theorem witness_BranchesGoToTheirTarget :
    ∀ i ∈ [Instr.bcc 0x00, .bcs 0x7F, .beq 0x80, .bne 0xFF, .bmi 0x00, .bpl 0x7F, .bvc 0x80, .bvs 0xFF],
      i.op ∈ [Op.bcc, .bcs, .beq, .bne, .bmi, .bpl, .bvc, .bvs] := by decide

theorem witness_JmpGoesToTheResolvedAddress :
    (Instr.jmpAbs 0xFFFF).op = .jmp ∧ (Instr.jmpInd 0x12FF).op = .jmp ∧
      (Instr.jmpAbs 0xFFFF).operand = .absolute 0xFFFF := by decide

/-- With the stack pointer at 0x00, so that the pushes wrap. -/
theorem witness_RtsReturnsBehindTheJsr :
    ∃ (target : Addr) (s t u v : State), s.sp = 0x00 ∧ exec (.jsr target) s = .next t ∧ u.sp = t.sp ∧
      u.read (stackCell s.sp) = t.read (stackCell s.sp) ∧
      u.read (stackCell (s.sp - 1)) = t.read (stackCell (s.sp - 1)) ∧ exec .rts u = .next v :=
  ⟨0x9000, { base with sp := 0x00 }, _, _, _, rfl, (exec_isNext _ _).choose_spec, rfl, rfl, rfl,
    (exec_isNext _ _).choose_spec⟩

theorem witness_PullsUndoPushes :
    (∃ s t u v : State, u.sp = t.sp ∧ u.read (stackCell s.sp) = t.read (stackCell s.sp) ∧
      exec .pha s = .next t ∧ exec .pla u = .next v) ∧
    ∃ s t u v : State, u.sp = t.sp ∧ u.read (stackCell s.sp) = t.read (stackCell s.sp) ∧
      exec .php s = .next t ∧ exec .plp u = .next v :=
  ⟨⟨base, _, _, _, rfl, rfl, (exec_isNext _ _).choose_spec, (exec_isNext _ _).choose_spec⟩,
    base, _, _, _, rfl, rfl, (exec_isNext _ _).choose_spec, (exec_isNext _ _).choose_spec⟩

theorem witness_NopAndPlaceholdersHaveNoEffect :
    (0x02 : Byte) ∈ unassignedOpcodes ∧ (0xFF : Byte) ∈ unassignedOpcodes := by decide

theorem witness_IrqEntersTheHandler :
    ∃ s : State, s.resetSeen = true ∧ s.cycles = 0 ∧ getFlag s.p .I = false := ⟨base, by decide⟩

theorem witness_MaskedIrqIsLost :
    ∃ s : State, s.resetSeen = true ∧ s.cycles = 0 ∧ getFlag s.p .I = true := ⟨{ base with p := 0x24 }, by decide⟩

theorem witness_NmiEntersTheHandler : ∃ s : State, s.resetSeen = true ∧ s.cycles = 0 := ⟨base, by decide⟩

/-- After each of the three entries, the last with the stack wrapping. -/
theorem witness_RtiReturnsToTheInterruptedProgram :
    (∃ s t u v : State, u.sp = t.sp ∧
      (∀ a ∈ [stackCell s.sp, stackCell (s.sp - 1), stackCell (s.sp - 2)], u.read a = t.read a) ∧
      exec .rti u = .next v ∧ event .irq s = .next t ∧ getFlag s.p .I = false) ∧
    (∃ s t u v : State, u.sp = t.sp ∧
      (∀ a ∈ [stackCell s.sp, stackCell (s.sp - 1), stackCell (s.sp - 2)], u.read a = t.read a) ∧
      exec .rti u = .next v ∧ event .nmi s = .next t) ∧
    ∃ s t u v : State, s.sp = 0x01 ∧ u.sp = t.sp ∧
      (∀ a ∈ [stackCell s.sp, stackCell (s.sp - 1), stackCell (s.sp - 2)], u.read a = t.read a) ∧
      exec .rti u = .next v ∧ exec .brk s = .next t :=
  ⟨⟨base, _, _, _, rfl, fun _ _ => rfl, (exec_isNext _ _).choose_spec, rfl, rfl⟩,
    ⟨base, _, _, _, rfl, fun _ _ => rfl, (exec_isNext _ _).choose_spec, rfl⟩,
    { base with sp := 0x01 }, _, _, _, rfl, rfl, fun _ _ => rfl, (exec_isNext _ _).choose_spec,
    (exec_isNext _ _).choose_spec⟩

/-- Each of the four clauses, the first three with every lower request active too. -/
theorem witness_PortRequestsHaveAPriority :
    (∃ s t : State, s.inputs = portInputs [(true, true, true)] ∧
      event .reset { s with inputs := [.clock] } = .next t) ∧
    (∃ s t : State, s.inputs = portInputs [(false, true, true)] ∧
      event .nmi { s with inputs := [.clock] } = .next t) ∧
    (∃ s t : State, s.inputs = portInputs [(false, false, true)] ∧
      event .irq { s with inputs := [.clock] } = .next t) ∧
    ∃ s : State, s.inputs = portInputs [(false, false, false)] :=
  ⟨⟨{ base with inputs := portInputs [(true, true, true)] }, _, rfl, rfl⟩,
    ⟨{ base with inputs := portInputs [(false, true, true)] }, _, rfl, rfl⟩,
    ⟨{ base with inputs := portInputs [(false, false, true)] }, _, rfl, rfl⟩,
    { base with inputs := portInputs [(false, false, false)] }, rfl⟩

theorem witness_FlagsAreWrittenOnlyByTheirInstructions :
    (∃ (i : Instr) (f : Flag) (s t : State), exec i s = .next t ∧ i.op ∉ flagWriters f) ∧
    (∃ (f : Flag) (s t : State), event .irq s = .next t ∧ f ∉ [Flag.I, .B, .U]) ∧
    (∃ s t : State, event (.hostWrite 0xFFFF 0x00) s = .next t) ∧
    (∃ (i : Instr) (s t : State), exec i s = .next t ∧ getFlag s.p .U = true) ∧
    ∃ (e : Event) (s t : State), event e s = .next t ∧ getFlag s.p .U = true :=
  ⟨⟨.ldaImm 0x00, .C, base, _, (exec_isNext _ _).choose_spec, by decide⟩, ⟨.D, base, _, rfl, by decide⟩,
    ⟨base, _, rfl⟩, ⟨.plp, base, _, (exec_isNext _ _).choose_spec, by decide⟩, .nmi, base, _, rfl, by decide⟩

theorem witness_RegistersAreWrittenOnlyByTheirInstructions :
    (∃ (i : Instr) (r : Reg) (s t : State), exec i s = .next t ∧ i.op ∉ registerWriters r) ∧
    (∃ (i : Instr) (s t : State), exec i s = .next t ∧ i.op ∈ [Op.asl, .lsr, .rol, .ror] ∧ i.operand ≠ .implied) ∧
    ∃ (e : Event) (r : Reg) (s t : State), event e s = .next t ∧ e ≠ .clock ∧ e ≠ .reset ∧ r ≠ .SP :=
  ⟨⟨.txs, .X, base, _, (exec_isNext _ _).choose_spec, by decide⟩,
    ⟨.aslZp0 0x10, base, _, (exec_isNext _ _).choose_spec, by decide, by decide⟩,
    .nmi, .A, base, _, rfl, by decide, by decide, by decide⟩

/-- The last address each clause allows, changed: by a store at the resolved address, by PHA, and by JSR, BRK,
`Irq` and `Nmi` where the stack pointer wraps; and an instruction of each of the other two kinds, and a `Reset`. -/
theorem witness_MemoryIsWrittenOnlyByStores :
    (∃ (i : Instr) (s t : State), exec i s = .next t ∧ i.op ∉ memoryWriters) ∧
    (∃ (i : Instr) (s t : State), exec i s = .next t ∧ i.op ∈ [Op.asl, .lsr, .rol, .ror] ∧ i.operand = .implied) ∧
    (∃ (s t : State), exec (.staZp0 0x10) s = .next t ∧ t.read 0x0010 ≠ s.read 0x0010) ∧
    (∃ (s t : State), exec .pha s = .next t ∧ t.read 0x01FD ≠ s.read 0x01FD) ∧
    (∃ (s t : State), exec (.jsr 0x9000) s = .next t ∧ s.sp = 0x00 ∧ t.read 0x01FF ≠ s.read 0x01FF) ∧
    (∃ (s t : State), exec .brk s = .next t ∧ s.sp = 0x01 ∧ t.read 0x01FF ≠ s.read 0x01FF) ∧
    (∃ (s t : State), event .irq s = .next t ∧ s.sp = 0x01 ∧ t.read 0x01FF ≠ s.read 0x01FF) ∧
    (∃ (s t : State), event .nmi s = .next t ∧ s.sp = 0x01 ∧ t.read 0x01FF ≠ s.read 0x01FF) ∧
    ∃ (s t : State), event .reset s = .next t :=
  ⟨⟨.ldaImm 0x00, base, _, (exec_isNext _ _).choose_spec, by decide⟩,
    ⟨.aslImp, base, _, (exec_isNext _ _).choose_spec, by decide, by decide⟩,
    ⟨{ base with a := 0x55, mem := [(0x0010, 0x00)] }, _, exec_next _ _, by decide +kernel⟩,
    ⟨{ base with a := 0x55, mem := [(0x01FD, 0x00)] }, _, exec_next _ _, by decide +kernel⟩,
    ⟨{ base with sp := 0x00, mem := [(0x01FF, 0x00)] }, _, exec_next _ _, rfl, by decide +kernel⟩,
    ⟨{ base with sp := 0x01, mem := [(0x01FF, 0x00)] }, _, exec_next _ _, rfl, by decide +kernel⟩,
    ⟨{ base with sp := 0x01, mem := [(0x01FF, 0x00)] }, _, rfl, rfl, by decide +kernel⟩,
    ⟨{ base with sp := 0x01, mem := [(0x01FF, 0x00)] }, _, rfl, rfl, by decide +kernel⟩, base, _, rfl⟩

theorem witness_DecimalFlagIsInert :
    ∀ i ∈ [Instr.adcImm 0x99, .plp, .sed, .php, .brk], ∃ s t : State, exec i s = .next t :=
  fun i _ => ⟨base, _, (exec_isNext i base).choose_spec⟩

/-- An empty range just below `start`, and a range of one address at the top of memory whose one line is
the last. -/
theorem witness_DisassemblyIsTheWalk :
    (0x8FFF : Addr).toNat < (0x9000 : Addr).toNat ∧ (0xFFFF : Addr).toNat ≤ (0xFFFF : Addr).toNat ∧
      (∃ (s : State) (l l' : Line), (disassemble s 0x0200 0x0202)[0]? = some l ∧
        (disassemble s 0x0200 0x0202)[0 + 1]? = some l') ∧
      ∃ (s : State) (l : Line), (disassemble s 0xFFFF 0xFFFF)[0]? = some l ∧
        (disassemble s 0xFFFF 0xFFFF)[0 + 1]? = none :=
  ⟨by decide, by decide, ⟨with3 0xA9 0x7F 0xEA base, _, _, rfl, rfl⟩, base, _, rfl, rfl⟩

theorem witness_DisassemblerShowsTheBranchTarget :
    ∃ (s t : State) (start stop : Addr) (l : Line), l ∈ disassemble s start stop ∧ l.mode = .rel ∧ s.pc = l.addr ∧
      branchTaken l.op s.p = some true ∧ exec (fetchInstr s) s = .next t :=
  let s := with3 0xD0 0x80 0xEA base
  ⟨s, _, 0x0200, 0x0200, lineAt s 0x0200, by decide +kernel, by decide +kernel, by decide +kernel, by decide +kernel,
    (exec_isNext _ _).choose_spec⟩

theorem witness_BusTransactionsExplainMemory :
    (∃ s t : State, event .clock s = .next t) ∧ (∃ s t : State, event .reset s = .next t) ∧
      (∃ s t : State, event .irq s = .next t) ∧ ∃ s t : State, event .nmi s = .next t :=
  ⟨⟨State.reset, _, rfl⟩, ⟨base, _, rfl⟩, ⟨base, _, rfl⟩, base, _, rfl⟩

theorem witness_DisassemblerOnlyPeeks :
    ∃ (s : State) (x : Transaction), x ∈ disassembleBus s 0xFFFF 0xFFFF :=
  ⟨base, memPeek base 0xFFFF, List.mem_flatMap.2 ⟨lineAt base 0xFFFF, List.mem_cons_self,
    List.mem_map.2 ⟨0, by simp, rfl⟩⟩⟩

end Sys2Proof.Tests
end

