-- ==== Sys2Proof/Proofs/Events.lean ====
section
/-! When an event has a next state and when the boundary of the core refuses it. -/

namespace Sys2Proof.Machine

/-- 70_reset_and_hazards.md R291: nothing guarded by the first `Reset` is accepted before it. -/
theorem afterReset_of_resetSeen_false (f : State → Out) {s : State} (hr : s.resetSeen = false) :
    afterReset f s = .refused .beforeFirstReset := by
  simp [afterReset, hr]

theorem afterReset_of_resetSeen (f : State → Out) {s : State} (hr : s.resetSeen = true) :
    afterReset f s = f s := by
  simp [afterReset, hr]

theorem request_of_cycles_eq_zero (handler : State → State) {s : State} (hc : s.cycles = 0) :
    request handler s = .next (handler s) := by
  simp [request, hc]

/-- 60_exceptions.md R275: a request away from a Boundary breaks the caller's contract. -/
theorem request_of_cycles_ne_zero (handler : State → State) {s : State} (hc : s.cycles ≠ 0) :
    request handler s = .refused .requestOffBoundary := by
  obtain ⟨n, hn⟩ := Nat.exists_eq_succ_of_ne_zero hc
  simp [request, hn]

/-- A `Clock` always has a next state, because every instruction has (00_scope.md R12). -/
theorem clock_isNext (s : State) : ∃ t, clock s = .next t := by
  by_cases hc : s.cycles = 0
  · obtain ⟨u, hu⟩ := exec_isNext (fetchInstr s) s
    exact ⟨_, clock_boundary hc hu⟩
  · exact ⟨_, clock_inFlight hc⟩

/-- An `Irq` or `Nmi` at a Boundary, once a `Reset` has happened, is taken by its handler. -/
theorem afterReset_request_boundary (handler : State → State) {s : State} (hr : s.resetSeen = true)
    (hc : s.cycles = 0) : afterReset (request handler) s = .next (handler s) :=
  (afterReset_of_resetSeen _ hr).trans (request_of_cycles_eq_zero handler hc)

/-- An `Irq` or `Nmi` away from a Boundary, once a `Reset` has happened, is refused. -/
theorem afterReset_request_offBoundary (handler : State → State) {s : State} (hr : s.resetSeen = true)
    (hc : s.cycles ≠ 0) : afterReset (request handler) s = .refused .requestOffBoundary :=
  (afterReset_of_resetSeen _ hr).trans (request_of_cycles_ne_zero handler hc)

/-- Settles O3, event by event: the first `Reset` guards `Clock`, `Irq` and `Nmi`, the Boundary guards the
two requests, and behind the guards every answer is a next state. -/
theorem eventsHaveANextStateOrAreRefused : Obligations.EventsHaveANextStateOrAreRefused := by
  intro e s
  refine ⟨?beforeFirstReset, ?offBoundary, ?accepted⟩
  case beforeFirstReset =>
    rintro ⟨rfl | rfl | rfl, hr⟩ <;> exact afterReset_of_resetSeen_false _ hr
  case offBoundary =>
    rintro ⟨rfl | rfl, hr, hc⟩ <;> exact afterReset_request_offBoundary _ hr hc
  case accepted =>
    rintro ⟨hreset, hboundary⟩
    cases e with
    | clock =>
      have hr : s.resetSeen = true := by simpa using hreset
      obtain ⟨t, ht⟩ := clock_isNext s
      exact ⟨t, (afterReset_of_resetSeen clock hr).trans ht⟩
    | reset => exact ⟨_, rfl⟩
    | irq =>
      have hr : s.resetSeen = true := by simpa using hreset
      have hc : s.cycles = 0 := by simpa [hr] using hboundary
      exact ⟨_, afterReset_request_boundary doIrq hr hc⟩
    | nmi =>
      have hr : s.resetSeen = true := by simpa using hreset
      have hc : s.cycles = 0 := by simpa [hr] using hboundary
      exact ⟨_, afterReset_request_boundary doNmi hr hc⟩
    | hostWrite a v => exact ⟨_, rfl⟩

end Sys2Proof.Machine
end

/-! The rules on the state (spec/10_state.md): what each operation leaves, who writes which field, the
invariant, and that D is inert. -/

namespace Sys2Proof.Machine

/-! ### What each operation leaves, in the named updates of the state -/

section Operations

variable (o : Operand) (s : State)

/-! #### Loads and stores (42_load_store.md R150 to R155) -/

@[simp] theorem meaningOf_lda :
    meaningOf .lda o s =
      (((fetch o s).setP (setZN (operandByte o s) s.p)).setA (operandByte o s), true) := rfl
@[simp] theorem meaningOf_ldx :
    meaningOf .ldx o s =
      (((fetch o s).setP (setZN (operandByte o s) s.p)).setX (operandByte o s), true) := rfl
@[simp] theorem meaningOf_ldy :
    meaningOf .ldy o s =
      (((fetch o s).setP (setZN (operandByte o s) s.p)).setY (operandByte o s), true) := rfl
@[simp] theorem meaningOf_sta : meaningOf .sta o s = (s.write s.addrAbs s.a, false) := rfl
@[simp] theorem meaningOf_stx : meaningOf .stx o s = (s.write s.addrAbs s.x, false) := rfl
@[simp] theorem meaningOf_sty : meaningOf .sty o s = (s.write s.addrAbs s.y, false) := rfl

/-! #### Arithmetic and compare (43_arithmetic_compare.md R160 to R165) -/

@[simp] theorem meaningOf_adc :
    meaningOf .adc o s =
      (((fetch o s).setP (addFlags s.a (operandByte o s) s.p)).setA
        (addResult s.a (operandByte o s) s.p), true) := rfl
@[simp] theorem meaningOf_sbc :
    meaningOf .sbc o s =
      (((fetch o s).setP (addFlags s.a (operandByte o s ^^^ 0xFF) s.p)).setA
        (addResult s.a (operandByte o s ^^^ 0xFF) s.p), true) := rfl
@[simp] theorem meaningOf_cmp :
    meaningOf .cmp o s = ((fetch o s).setP (compareFlags s.a (operandByte o s) s.p), true) := rfl
@[simp] theorem meaningOf_cpx :
    meaningOf .cpx o s = ((fetch o s).setP (compareFlags s.x (operandByte o s) s.p), false) := rfl
@[simp] theorem meaningOf_cpy :
    meaningOf .cpy o s = ((fetch o s).setP (compareFlags s.y (operandByte o s) s.p), false) := rfl

/-! #### Logical operations and bit test (44_logical_bit.md R170 to R173) -/

@[simp] theorem meaningOf_and :
    meaningOf .and o s =
      (((fetch o s).setA (s.a &&& operandByte o s)).setP (setZN (s.a &&& operandByte o s) s.p), true) := rfl
@[simp] theorem meaningOf_ora :
    meaningOf .ora o s =
      (((fetch o s).setA (s.a ||| operandByte o s)).setP (setZN (s.a ||| operandByte o s) s.p), true) := rfl
@[simp] theorem meaningOf_eor :
    meaningOf .eor o s =
      (((fetch o s).setA (s.a ^^^ operandByte o s)).setP (setZN (s.a ^^^ operandByte o s) s.p), true) := rfl
@[simp] theorem meaningOf_bit :
    meaningOf .bit o s = ((fetch o s).setP (bitFlags s.a (operandByte o s) s.p), false) := rfl

/-! #### Shifts and rotates (45_shift_rotate.md R181 to R184) -/

@[simp] theorem meaningOf_asl :
    meaningOf .asl o s =
      (writeBack o (aslResult (operandByte o s))
        ((fetch o s).setP (shiftFlags ((operandByte o s).getLsbD 7)
          (aslResult (operandByte o s)) s.p)), false) := rfl
@[simp] theorem meaningOf_lsr :
    meaningOf .lsr o s =
      (writeBack o (lsrResult (operandByte o s))
        ((fetch o s).setP (shiftFlags ((operandByte o s).getLsbD 0)
          (lsrResult (operandByte o s)) s.p)), false) := rfl
@[simp] theorem meaningOf_rol :
    meaningOf .rol o s =
      (writeBack o (rolResult (getFlag s.p .C) (operandByte o s))
        ((fetch o s).setP (shiftFlags ((operandByte o s).getLsbD 7)
          (rolResult (getFlag s.p .C) (operandByte o s)) s.p)), false) := rfl
@[simp] theorem meaningOf_ror :
    meaningOf .ror o s =
      (writeBack o (rorResult (getFlag s.p .C) (operandByte o s))
        ((fetch o s).setP (shiftFlags ((operandByte o s).getLsbD 0)
          (rorResult (getFlag s.p .C) (operandByte o s)) s.p)), false) := rfl

/-! #### Increments and decrements (46_inc_dec.md R190 to R195) -/

@[simp] theorem meaningOf_inc :
    meaningOf .inc o s =
      (((fetch o s).write s.addrAbs (operandByte o s + 1)).setP
        (setZN (operandByte o s + 1) s.p), false) := rfl
@[simp] theorem meaningOf_dec :
    meaningOf .dec o s =
      (((fetch o s).write s.addrAbs (operandByte o s - 1)).setP
        (setZN (operandByte o s - 1) s.p), false) := rfl
@[simp] theorem meaningOf_inx :
    meaningOf .inx o s = ((s.setX (s.x + 1)).setP (setZN (s.x + 1) s.p), false) := rfl
@[simp] theorem meaningOf_dex :
    meaningOf .dex o s = ((s.setX (s.x - 1)).setP (setZN (s.x - 1) s.p), false) := rfl
@[simp] theorem meaningOf_iny :
    meaningOf .iny o s = ((s.setY (s.y + 1)).setP (setZN (s.y + 1) s.p), false) := rfl
@[simp] theorem meaningOf_dey :
    meaningOf .dey o s = ((s.setY (s.y - 1)).setP (setZN (s.y - 1) s.p), false) := rfl

/-! #### Control transfer (47_control_transfer.md R201 to R211) -/

@[simp] theorem meaningOf_bcc : meaningOf .bcc o s = (branch (!getFlag s.p .C) s, false) := rfl
@[simp] theorem meaningOf_bcs : meaningOf .bcs o s = (branch (getFlag s.p .C) s, false) := rfl
@[simp] theorem meaningOf_beq : meaningOf .beq o s = (branch (getFlag s.p .Z) s, false) := rfl
@[simp] theorem meaningOf_bne : meaningOf .bne o s = (branch (!getFlag s.p .Z) s, false) := rfl
@[simp] theorem meaningOf_bmi : meaningOf .bmi o s = (branch (getFlag s.p .N) s, false) := rfl
@[simp] theorem meaningOf_bpl : meaningOf .bpl o s = (branch (!getFlag s.p .N) s, false) := rfl
@[simp] theorem meaningOf_bvc : meaningOf .bvc o s = (branch (!getFlag s.p .V) s, false) := rfl
@[simp] theorem meaningOf_bvs : meaningOf .bvs o s = (branch (getFlag s.p .V) s, false) := rfl
@[simp] theorem meaningOf_jmp : meaningOf .jmp o s = (s.setPc s.addrAbs, false) := rfl
@[simp] theorem meaningOf_jsr : meaningOf .jsr o s = ((pushWord (s.pc - 1) s).setPc s.addrAbs, false) := rfl
@[simp] theorem meaningOf_rts :
    meaningOf .rts o s = ((popState (popState s)).setPc (popWord s + 1), false) := rfl

/-! #### Stack, flags and transfers (48_stack_flag_transfer.md R220 to R236) -/

@[simp] theorem meaningOf_pha : meaningOf .pha o s = (push s.a s, false) := rfl
@[simp] theorem meaningOf_php : meaningOf .php o s = (push (phpByte s.p) s, false) := rfl
@[simp] theorem meaningOf_pla :
    meaningOf .pla o s = (((popState s).setA (popByte s)).setP (setZN (popByte s) s.p), false) := rfl
@[simp] theorem meaningOf_plp : meaningOf .plp o s = ((popState s).setP (plpByte (popByte s)), false) := rfl
@[simp] theorem meaningOf_sec : meaningOf .sec o s = (s.setP (setFlag s.p .C true), false) := rfl
@[simp] theorem meaningOf_clc : meaningOf .clc o s = (s.setP (setFlag s.p .C false), false) := rfl
@[simp] theorem meaningOf_sed : meaningOf .sed o s = (s.setP (setFlag s.p .D true), false) := rfl
@[simp] theorem meaningOf_cld : meaningOf .cld o s = (s.setP (setFlag s.p .D false), false) := rfl
@[simp] theorem meaningOf_sei : meaningOf .sei o s = (s.setP (setFlag s.p .I true), false) := rfl
@[simp] theorem meaningOf_cli : meaningOf .cli o s = (s.setP (setFlag s.p .I false), false) := rfl
@[simp] theorem meaningOf_clv : meaningOf .clv o s = (s.setP (setFlag s.p .V false), false) := rfl
@[simp] theorem meaningOf_tax : meaningOf .tax o s = ((s.setX s.a).setP (setZN s.a s.p), false) := rfl
@[simp] theorem meaningOf_tay : meaningOf .tay o s = ((s.setY s.a).setP (setZN s.a s.p), false) := rfl
@[simp] theorem meaningOf_txa : meaningOf .txa o s = ((s.setA s.x).setP (setZN s.x s.p), false) := rfl
@[simp] theorem meaningOf_tya : meaningOf .tya o s = ((s.setA s.y).setP (setZN s.y s.p), false) := rfl
@[simp] theorem meaningOf_tsx : meaningOf .tsx o s = ((s.setX s.sp).setP (setZN s.sp s.p), false) := rfl
@[simp] theorem meaningOf_txs : meaningOf .txs o s = (s.setSp s.x, false) := rfl

/-! #### System (49_system.md R250 to R253) -/

@[simp] theorem meaningOf_brk :
    meaningOf .brk o s =
      (takeInterrupt (s.pc + 1) (brkByte s.p) (setFlag (brkByte s.p) .B false) irqVector s, false) := rfl
@[simp] theorem meaningOf_rti : meaningOf .rti o s = (returnFromInterrupt s, false) := rfl
@[simp] theorem meaningOf_nop : meaningOf .nop o s = (s, s.config.extraNopOpcodes.contains s.opcode) := rfl
@[simp] theorem meaningOf_xxx : meaningOf .xxx o s = (s, false) := rfl

end Operations

/-! ### One field of the state, over all operations -/

/-- The operations that call `Fetch()` (41_addressing_modes.md R143, R144). -/
def fetchingOps : List Op :=
  [.lda, .ldx, .ldy, .adc, .sbc, .cmp, .cpx, .cpy, .and, .ora, .eor, .bit, .asl, .lsr,
    .rol, .ror, .inc, .dec]

/-- `fetched` is written by `Fetch()` alone (10_state.md R35). -/
theorem meaningOf_fetched (op : Op) (o : Operand) (s : State) :
    (meaningOf op o s).1.fetched = if op ∈ fetchingOps then operandByte o s else s.fetched := by
  cases op <;> simp [fetchingOps]

/-- Outside its "written by" list a flag is kept (10_state.md R27). -/
theorem meaningOf_getFlag_of_notWriter {op : Op} {f : Flag} (h : op ∉ flagWriters f) (o : Operand)
    (s : State) : getFlag (meaningOf op o s).1.p f = getFlag s.p f := by
  cases op <;> cases f <;>
    simp [flagWriters, getFlag_setZN, getFlag_addFlags, getFlag_compareFlags,
      getFlag_bitFlags, getFlag_shiftFlags, getFlag_brkByte] at h ⊢

/-- Outside its "written by" list a register is kept (10_state.md R21 to R24). -/
theorem meaningOf_getReg_of_notWriter {op : Op} {r : Reg} (h : op ∉ registerWriters r) (o : Operand)
    (s : State) : getReg (meaningOf op o s).1 r = getReg s r := by
  cases op <;> cases r <;> simp [registerWriters, getReg] at h ⊢

/-- A branch operation is `Branch(cond)` (47_control_transfer.md R200). -/
theorem meaningOf_of_branchTaken {op : Op} {s : State} {taken : Bool}
    (h : branchTaken op s.p = some taken) (o : Operand) : meaningOf op o s = (branch taken s, false) := by
  cases op <;> simp [branchTaken] at h ⊢ <;> simp [h]

/-- An operation that is no branch leaves `cycles` at the base count. -/
theorem meaningOf_cycles_of_notBranch {op : Op} {s : State} (h : branchTaken op s.p = none) (o : Operand) :
    (meaningOf op o s).1.cycles = s.cycles := by
  cases op <;> simp [branchTaken] at h ⊢

/-! ### The countdown and the requests, field by field -/

@[simp] theorem countDown_p (s : State) : (countDown s).p = s.p := rfl
@[simp] theorem countDown_addrRel (s : State) : (countDown s).addrRel = s.addrRel := rfl
@[simp] theorem countDown_cycles (s : State) : (countDown s).cycles = s.cycles - 1 := rfl
@[simp] theorem countDown_mem (s : State) : (countDown s).mem = s.mem := rfl
@[simp] theorem countDown_resetSeen (s : State) : (countDown s).resetSeen = s.resetSeen := rfl
@[simp] theorem countDown_config (s : State) : (countDown s).config = s.config := rfl

section Requests

variable (vector : Addr) (n : Nat) (s : State)

@[simp] theorem acceptRequest_a : (acceptRequest vector n s).a = s.a := by simp [acceptRequest]
@[simp] theorem acceptRequest_x : (acceptRequest vector n s).x = s.x := by simp [acceptRequest]
@[simp] theorem acceptRequest_y : (acceptRequest vector n s).y = s.y := by simp [acceptRequest]
@[simp] theorem acceptRequest_p :
    (acceptRequest vector n s).p = setFlag (requestByte s.p) .I true := by simp [acceptRequest]
@[simp] theorem acceptRequest_addrRel : (acceptRequest vector n s).addrRel = s.addrRel := by
  simp [acceptRequest]
@[simp] theorem acceptRequest_cycles : (acceptRequest vector n s).cycles = n := rfl
@[simp] theorem acceptRequest_mem :
    (acceptRequest vector n s).mem =
      (takeInterrupt s.pc (requestByte s.p) (setFlag (requestByte s.p) .I true) vector s).mem := rfl
@[simp] theorem acceptRequest_resetSeen : (acceptRequest vector n s).resetSeen = s.resetSeen := by
  simp [acceptRequest]
@[simp] theorem acceptRequest_config : (acceptRequest vector n s).config = s.config := by
  simp [acceptRequest]

end Requests

/-- An `Irq` is lost (60_exceptions.md R263) or taken (R262). -/
theorem doIrq_cases (s : State) : doIrq s = s ∨ doIrq s = acceptRequest irqVector irqCycles s := by
  unfold doIrq
  split
  · exact .inl rfl
  · exact .inr rfl

/-- What `Irq` and `Nmi` do: nothing, or the entry they share (60_exceptions.md R262 to R267). -/
theorem request_cases {e : Event} {s t : State} (h : event e s = .next t) (he : e = .irq ∨ e = .nmi) :
    t = s ∨ ∃ vector n, t = acceptRequest vector n s := by
  rcases event_cases h with ⟨rfl, -⟩ | ⟨rfl, -⟩ | ⟨rfl, -⟩ | ⟨-, -, -, rfl⟩ | ⟨-, -, -, rfl⟩ |
    ⟨a, v, rfl, -⟩
  · simp at he
  · simp at he
  · simp at he
  · exact (doIrq_cases s).imp_right fun hs => ⟨_, _, hs⟩
  · exact .inr ⟨nmiVector, nmiCycles, rfl⟩
  · simp at he

/-! ### The canonical form of memory -/

theorem pushWord_wf {w : Addr} {s : State} (h : Memory.wf s.mem) : Memory.wf (pushWord w s).mem :=
  push_wf (push_wf h)

theorem takeInterrupt_wf {ret : Addr} {pushed live : Byte} {vector : Addr} {s : State}
    (h : Memory.wf s.mem) : Memory.wf (takeInterrupt ret pushed live vector s).mem :=
  push_wf (pushWord_wf h)

theorem writeBack_wf {o : Operand} {r : Byte} {s : State} (h : Memory.wf s.mem) :
    Memory.wf (writeBack o r s).mem := by
  rw [writeBack_mem]
  split
  · exact h
  · exact write_wf _ _ h

theorem meaningOf_mem_wf (op : Op) (o : Operand) {s : State} (h : Memory.wf s.mem) :
    Memory.wf (meaningOf op o s).1.mem := by
  cases op with
  | sta | stx | sty | inc | dec => exact write_wf _ _ h
  | asl | lsr | rol | ror => exact writeBack_wf h
  | pha | php => exact push_wf h
  | jsr => exact pushWord_wf h
  | brk => exact takeInterrupt_wf h
  | _ => simpa using h

theorem exec_mem_wf {i : Instr} {s t : State} (h : exec i s = .next t) (hm : Memory.wf s.mem) :
    Memory.wf t.mem := by
  rw [eq_of_exec h, finish_mem]
  exact meaningOf_mem_wf _ _ (by simpa using hm)

/-! ### The flag U (10_state.md R29) -/

/-- Of the two that write U, PLP and RTI, both force it to 1 (R223, R251). -/
theorem meaningOf_keeps_U (op : Op) (o : Operand) {s : State} (h : getFlag s.p .U = true) :
    getFlag (meaningOf op o s).1.p .U = true := by
  by_cases hw : op ∈ flagWriters .U
  · obtain rfl | rfl : op = .plp ∨ op = .rti := by simpa [flagWriters] using hw
    · simp [getFlag_plpByte]
    · simp [getFlag_rtiByte]
  · rw [meaningOf_getFlag_of_notWriter hw, h]

theorem exec_keeps_U {i : Instr} {s t : State} (h : exec i s = .next t) (hu : getFlag s.p .U = true) :
    getFlag t.p .U = true := by
  rw [eq_of_exec h, finish_p]
  exact meaningOf_keeps_U _ _ (by simpa using hu)

theorem acceptRequest_sets_U (vector : Addr) (n : Nat) (s : State) :
    getFlag (acceptRequest vector n s).p .U = true := by
  simp [getFlag_requestByte]

/-! ### The range of `addr_rel` (R37) -/

theorem sext16_range (b : Byte) : (sext16 b).toNat ≤ 0x007F ∨ 0xFF80 ≤ (sext16 b).toNat := by
  revert b
  decide

/-- The Relative mode is the one that writes `addr_rel`, a sign extension (R142). -/
theorem modeAddrRel_range (o : Operand) {s : State}
    (h : s.addrRel.toNat ≤ 0x007F ∨ 0xFF80 ≤ s.addrRel.toNat) :
    (modeAddrRel o s).toNat ≤ 0x007F ∨ 0xFF80 ≤ (modeAddrRel o s).toNat := by
  cases o with
  | relative b => exact sext16_range b
  | _ => exact h

/-! ### The bound of `cycles` (R39) -/

/-- The largest base count of the opcode matrix is 7 (30_encoding.md R87). -/
theorem matrixCell_base_le : ∀ b : Byte, ∀ r ∈ matrixCell b, r.base ≤ 7 := by decide +kernel

theorem rom_base_le (c : Config) (b : Byte) : (rom c b).base ≤ max 7 c.unimplCycles := by
  unfold rom
  split
  next r hr => exact le_max_of_le_left (matrixCell_base_le b r hr)
  next => exact le_max_right _ _

/-- The eight branches have base count 2 (R88). -/
theorem rom_base_of_branchTaken {i : Instr} {p : Byte} {taken : Bool} (c : Config)
    (h : branchTaken i.op p = some taken) : (rom c i.opcode).base = 2 := by
  cases i <;> simp [branchTaken, Instr.op, Instr.form, Instr.opcode] at h ⊢

/-- One cycle for a branch taken, one more for another page (R200). -/
theorem branch_cycles_le (taken : Bool) (s : State) : (branch taken s).cycles ≤ s.cycles + 2 := by
  rw [branch_cycles]
  have := Bool.toNat_le (otherPage (s.pc + s.addrRel) s.pc)
  split <;> omega

/-- A branch ends at 4 at most; every other instruction at its base count plus the one cycle both signals
grant (40_sequencer.md R114). -/
theorem exec_cycles_le {i : Instr} {s t : State} (h : exec i s = .next t) :
    t.cycles ≤ max 7 s.config.unimplCycles + 1 := by
  rw [eq_of_exec h, finish_cycles]
  cases hb : branchTaken i.op (modeState i s).p with
  | none =>
    rw [meaningOf_cycles_of_notBranch hb, modeState_cycles]
    exact Nat.add_le_add (rom_base_le _ _) (Bool.toNat_le _)
  | some taken =>
    have hle := branch_cycles_le taken (modeState i s)
    have hbase := rom_base_of_branchTaken s.config hb
    rw [modeState_cycles, hbase] at hle
    simp only [meaningOf_of_branchTaken hb, Bool.and_false, Bool.toNat_false]
    omega

/-! ### The invariant -/

theorem setInputs_preserves_inv {s : State} (h : Inv s) (rest : List Event) : Inv (s.setInputs rest) :=
  { h with }

theorem countDown_preserves_inv {s : State} (h : Inv s) : Inv (countDown s) :=
  { h with counter := fun hr => (Nat.sub_le _ _).trans (h.counter hr) }

/-- The boundary `Clock`: the instruction may reach the bound plus one, and the countdown takes it back. -/
theorem instruction_preserves_inv {i : Instr} {s t : State} (h : Inv s) (ht : exec i s = .next t) :
    Inv (countDown t) := by
  obtain ⟨hconfig, -, hseen⟩ := exec_outside ht
  constructor
  case memory => simpa using exec_mem_wf ht h.memory
  case parameters => simpa [hconfig] using h.parameters
  case unusedSet =>
    intro hr
    simpa using exec_keeps_U ht (h.unusedSet (by simpa [hseen] using hr))
  case offset =>
    intro hr
    simpa only [countDown_addrRel, exec_addrRel ht]
      using modeAddrRel_range i.operand (h.offset (by simpa [hseen] using hr))
  case counter =>
    intro _
    have hle := exec_cycles_le ht
    rw [countDown_cycles, countDown_config, hconfig]
    omega

theorem doReset_preserves_inv {s : State} (h : Inv s) : Inv (doReset s) where
  memory := h.memory
  parameters := h.parameters
  unusedSet _ := (by decide : getFlag resetP .U = true)
  offset _ := .inl (Nat.zero_le _)
  counter _ := le_max_left _ _

theorem acceptRequest_preserves_inv {vector : Addr} {n : Nat} {s : State} (hn : n ≤ 8) (h : Inv s) :
    Inv (acceptRequest vector n s) where
  memory := by simpa using takeInterrupt_wf h.memory
  parameters := by simpa using h.parameters
  unusedSet _ := acceptRequest_sets_U vector n s
  offset := by simpa using h.offset
  counter _ := by simpa using le_max_of_le_left hn

theorem doIrq_preserves_inv {s : State} (h : Inv s) : Inv (doIrq s) := by
  rcases doIrq_cases s with hs | hs
  · rwa [hs]
  · rw [hs]
    exact acceptRequest_preserves_inv (by decide) h

theorem doNmi_preserves_inv {s : State} (h : Inv s) : Inv (doNmi s) :=
  acceptRequest_preserves_inv (by decide) h

theorem write_preserves_inv {s : State} (h : Inv s) (a : Addr) (v : Byte) : Inv (s.write a v) :=
  { h with memory := write_wf a v h.memory }

theorem event_preserves_inv {e : Event} {s t : State} (h : Inv s) (ht : event e s = .next t) : Inv t := by
  rcases event_cases ht with ⟨-, -, -, u, hu, rfl⟩ | ⟨-, -, -, rfl⟩ | ⟨-, rfl⟩ | ⟨-, -, -, rfl⟩ |
    ⟨-, -, -, rfl⟩ | ⟨a, v, -, rfl⟩
  · exact instruction_preserves_inv h hu
  · exact countDown_preserves_inv h
  · exact doReset_preserves_inv h
  · exact doIrq_preserves_inv h
  · exact doNmi_preserves_inv h
  · exact write_preserves_inv h a v

/-- Settles O9: a step is one event, on the state without the input it came from. -/
theorem everyStepKeepsTheInvariant : Obligations.EveryStepKeepsTheInvariant := by
  intro s t hs hst
  rcases step_cases hst with ⟨-, ht⟩ | ⟨e, rest, -, ht⟩
  · exact ⟨event_preserves_inv hs ht, (event_outside ht).1⟩
  · exact ⟨event_preserves_inv (setInputs_preserves_inv hs rest) ht, (event_outside ht).1⟩

/-- Settles O8: memory is empty there, and the other clauses are about fixed values. -/
theorem invariantHoldsAtReset : Obligations.InvariantHoldsAtReset where
  memory := ⟨.nil, fun _ hc => absurd hc List.not_mem_nil⟩
  parameters := by decide
  unusedSet _ := by decide
  offset _ := by decide
  counter _ := by decide

/-! ### The state after `Reset` (10_state.md R43) -/

theorem read16_resetVector {s : State} (hlo : s.read 0xFFFC = 0x00) (hhi : s.read 0xFFFD = 0x80) :
    s.read16 resetVector = 0x8000 :=
  calc s.read16 resetVector
    _ = join (s.read 0xFFFD) (s.read 0xFFFC) := rfl
    _ = join 0x80 0x00 := by rw [hlo, hhi]
    _ = 0x8000 := rfl

/-- Settles O2: apart from `PC` the two states agree field by field, and the vector is the premise's. -/
theorem resetStateIsTheStateAfterReset : Obligations.ResetStateIsTheStateAfterReset := by
  intro s hlo hhi
  show Host.Outcome.next (doReset s) = _
  rw [doReset, read16_resetVector hlo hhi]
  rfl

/-! ### The transient fields -/

/-- The modes that write no address keep `addr_abs` (R131, R142). -/
theorem resolved_of_noAddress {i : Instr} (h : i.operand.mode = .imp ∨ i.operand.mode = .rel) (s : State) :
    resolved i s = s.addrAbs := by
  unfold resolved
  revert h
  cases i.operand <;> simp [Operand.mode, effAddr]

/-- Every mode but Relative keeps `addr_rel` (R130). -/
theorem modeAddrRel_of_not_relative {o : Operand} (h : o.mode ≠ .rel) (s : State) :
    modeAddrRel o s = s.addrRel := by
  cases o with
  | relative b => exact absurd rfl h
  | _ => rfl

theorem modeFetched_eq (o : Operand) (s : State) :
    modeFetched o s = if o.mode = .imp then s.a else s.fetched := by
  cases o <;> rfl

/-- `fetched` after an instruction: the byte `Fetch()` returned, or else what the mode left (R131, R143). -/
theorem exec_fetched {i : Instr} {s t : State} (h : exec i s = .next t) :
    t.fetched = if i.op ∈ fetchingOps then operandOf i s
      else if i.operand.mode = .imp then s.a else s.fetched := by
  rw [eq_of_exec h, finish_fetched, meaningOf_fetched, operandByte_modeState, modeState_fetched,
    modeFetched_eq]

/-- Settles O21, field by field. -/
theorem transientFieldsFollowTheRules : Obligations.TransientFieldsFollowTheRules := by
  intro i s t h
  refine ⟨exec_opcode h, ?addrAbs, fun b hb => ?relative, fun hm => ?otherMode, exec_fetched h⟩
  case addrAbs =>
    rw [exec_addrAbs h]
    split
    next hm => exact resolved_of_noAddress hm s
    next => rfl
  case relative => rw [exec_addrRel h, hb, modeAddrRel]
  case otherMode => rw [exec_addrRel h, modeAddrRel_of_not_relative hm]

/-! ### Who writes a flag -/

/-- An instruction outside a flag's list keeps the flag (R27). -/
theorem exec_getFlag_of_notWriter {i : Instr} {s t : State} {f : Flag} (h : exec i s = .next t)
    (hf : i.op ∉ flagWriters f) : getFlag t.p f = getFlag s.p f := by
  rw [eq_of_exec h, finish_p, meaningOf_getFlag_of_notWriter hf, modeState_p]

/-- `Irq` and `Nmi` name I, B and U (60_exceptions.md R262, R265). -/
theorem request_keeps_flag {e : Event} {s t : State} {f : Flag} (h : event e s = .next t)
    (he : e = .irq ∨ e = .nmi) (hf : f ∉ [Flag.I, .B, .U]) : getFlag t.p f = getFlag s.p f := by
  obtain rfl | ⟨vector, n, rfl⟩ := request_cases h he
  · rfl
  · simp only [List.mem_cons, List.not_mem_nil, or_false, not_or] at hf
    simp [getFlag_requestByte, hf]

/-- U stays set through every event (R29): instructions keep it, `Reset`, `Irq` and `Nmi` set it. -/
theorem event_keeps_U {e : Event} {s t : State} (h : event e s = .next t) (hu : getFlag s.p .U = true) :
    getFlag t.p .U = true := by
  rcases event_cases h with ⟨-, -, -, u, hexec, rfl⟩ | ⟨-, -, -, rfl⟩ | ⟨-, rfl⟩ | ⟨-, -, -, rfl⟩ |
    ⟨-, -, -, rfl⟩ | ⟨a, v, -, rfl⟩
  · simpa using exec_keeps_U hexec hu
  · exact hu
  · exact (by decide : getFlag resetP .U = true)
  · rcases doIrq_cases s with hs | hs
    · rwa [hs]
    · rw [hs, acceptRequest_sets_U]
  · rw [doNmi, acceptRequest_sets_U]
  · exact hu

theorem eq_write_of_hostWrite {a : Addr} {v : Byte} {s t : State} (h : event (.hostWrite a v) s = .next t) :
    t = s.write a v :=
  (Host.Outcome.next.inj h).symm

/-- Settles O53, clause by clause. -/
theorem flagsAreWrittenOnlyByTheirInstructions : Obligations.FlagsAreWrittenOnlyByTheirInstructions := by
  intro s t
  refine ⟨fun i f => exec_getFlag_of_notWriter, fun e f => request_keeps_flag, fun a b h => ?hostWrite,
    fun i => exec_keeps_U, fun e => event_keeps_U⟩
  case hostWrite => rw [eq_write_of_hostWrite h, write_p]

/-! ### Who writes a register -/

@[simp] theorem getReg_finish (i : Instr) (s : State) (e : State × Bool) (r : Reg) :
    getReg (finish i s e) r = getReg e.1 r := by
  cases r <;> rfl

@[simp] theorem getReg_modeState (i : Instr) (s : State) (r : Reg) :
    getReg (modeState i s) r = getReg s r := by
  cases r <;> simp [getReg]

/-- An instruction outside a register's list keeps the register (R21 to R24). -/
theorem exec_getReg_of_notWriter {i : Instr} {s t : State} {r : Reg} (h : exec i s = .next t)
    (hr : i.op ∉ registerWriters r) : getReg t r = getReg s r := by
  rw [eq_of_exec h, getReg_finish, meaningOf_getReg_of_notWriter hr, getReg_modeState]

/-- In their memory forms the shifts and rotates write back to memory (45_shift_rotate.md R180). -/
theorem exec_a_of_memoryShift {i : Instr} {s t : State} (h : exec i s = .next t)
    (hop : i.op ∈ [Op.asl, .lsr, .rol, .ror]) (ho : i.operand ≠ .implied) : t.a = s.a := by
  rw [eq_of_exec h, finish_a]
  simp only [List.mem_cons, List.not_mem_nil, or_false] at hop
  rcases hop with hop | hop | hop | hop <;> simp [hop, writeBack_a, ho]

theorem getReg_acceptRequest {r : Reg} (hr : r ≠ .SP) (vector : Addr) (n : Nat) (s : State) :
    getReg (acceptRequest vector n s) r = getReg s r := by
  cases r with
  | SP => exact absurd rfl hr
  | A | X | Y => simp [getReg]

/-- Of the registers, the requests but `Reset` write `SP` only (10_state.md R24), and a host write none. -/
theorem event_keeps_register {e : Event} {s t : State} {r : Reg} (h : event e s = .next t)
    (hclock : e ≠ .clock) (hreset : e ≠ .reset) (hr : r ≠ .SP) : getReg t r = getReg s r := by
  rcases event_cases h with ⟨he, -⟩ | ⟨he, -⟩ | ⟨he, -⟩ | ⟨-, -, -, rfl⟩ | ⟨-, -, -, rfl⟩ |
    ⟨a, v, -, rfl⟩
  · exact absurd he hclock
  · exact absurd he hclock
  · exact absurd he hreset
  · rcases doIrq_cases s with hs | hs
    · rw [hs]
    · rw [hs, getReg_acceptRequest hr]
  · rw [doNmi, getReg_acceptRequest hr]
  · cases r <;> rfl

/-- Settles O54, clause by clause. -/
theorem registersAreWrittenOnlyByTheirInstructions :
    Obligations.RegistersAreWrittenOnlyByTheirInstructions := fun _ _ =>
  ⟨fun _ _ => exec_getReg_of_notWriter, fun _ => exec_a_of_memoryShift, fun _ _ => event_keeps_register⟩

/-! ### The status register apart from the rest of the state -/

section SetP

variable (s : State) (p q v : Byte) (w : Addr) (c : Bool) (o : Operand)

/-! #### `P` is a field of its own: every other update commutes with writing it -/

theorem setP_setP : (s.setP q).setP p = s.setP p := rfl
theorem setA_setP : (s.setP q).setA v = (s.setA v).setP q := rfl
theorem setX_setP : (s.setP q).setX v = (s.setX v).setP q := rfl
theorem setY_setP : (s.setP q).setY v = (s.setY v).setP q := rfl
theorem setSp_setP : (s.setP q).setSp v = (s.setSp v).setP q := rfl
theorem setPc_setP : (s.setP q).setPc w = (s.setPc w).setP q := rfl
theorem write_setP : (s.setP q).write w v = (s.write w v).setP q := rfl
theorem push_setP : push v (s.setP q) = (push v s).setP q := rfl
theorem pushWord_setP : pushWord w (s.setP q) = (pushWord w s).setP q := rfl
theorem popState_setP : popState (s.setP q) = (popState s).setP q := rfl
theorem popByte_setP : popByte (s.setP q) = popByte s := rfl
theorem popWord_setP : popWord (s.setP q) = popWord s := rfl
theorem returnFromInterrupt_setP : returnFromInterrupt (s.setP q) = returnFromInterrupt s := rfl
theorem branch_setP : branch c (s.setP q) = (branch c s).setP q := by
  cases c <;> rfl
theorem writeBack_setP : writeBack o v (s.setP q) = (writeBack o v s).setP q := by
  cases o <;> rfl
theorem operandByte_setP : operandByte o (s.setP q) = operandByte o s := by
  cases o <;> rfl
theorem fetch_setP : fetch o (s.setP q) = (fetch o s).setP q := by
  cases o <;> rfl

end SetP

theorem modeState_setP (i : Instr) (s : State) (q : Byte) :
    modeState i (s.setP q) = (modeState i s).setP q := by
  unfold modeState
  generalize i.opcode = b
  cases i.operand <;> rfl

/-- No addressing mode reads `P`. -/
theorem modeSignal_startInstr_setP (o : Operand) (b : Byte) (s : State) (q : Byte) :
    modeSignal o (startInstr b (s.setP q)) = modeSignal o (startInstr b s) := by
  cases o <;> rfl

theorem finish_setP (i : Instr) (s : State) (q : Byte) (r : State × Bool) :
    finish i (s.setP q) r = finish i s r := by
  simp only [finish, modeSignal_startInstr_setP]

/-- An instruction started with another `P`: the fetch and the mode are the same, the operation sees the
other `P`. -/
theorem exec_setP (i : Instr) (s : State) (q : Byte) :
    exec i (s.setP q) = .next (finish i s (meaningOf i.op i.operand ((modeState i s).setP q))) := by
  rw [exec_finish, modeState_setP, finish_setP]

/-! ### Setting D before or after a flag computation -/

/-- Writing D and writing another flag do not interfere (R26). -/
theorem setFlag_setDecimal {g : Flag} (hg : g ≠ .D) (p : Byte) (d b : Bool) :
    setFlag (setFlag p .D d) g b = setFlag (setFlag p g b) .D d := by
  apply eq_of_getFlag
  intro f
  simp only [getFlag_setFlag]
  split <;> split <;> simp_all

/-- The second write of a flag is the one that counts (R26). -/
theorem setFlag_setFlag_self (f : Flag) (p : Byte) (a b : Bool) :
    setFlag (setFlag p f a) f b = setFlag p f b := by
  apply eq_of_getFlag
  intro g
  simp only [getFlag_setFlag]
  split <;> rfl

section SetDecimal

variable (a m p r v : Byte) (c d : Bool)

theorem setZN_setDecimal : setZN v (setFlag p .D d) = setFlag (setZN v p) .D d := by
  simp [setZN, setFlag_setDecimal]

/-- The adder reads C of the old status and no other flag (R160). -/
theorem addResult_setDecimal : addResult a m (setFlag p .D d) = addResult a m p := by
  simp [addResult, addTemp]

theorem addFlags_setDecimal : addFlags a m (setFlag p .D d) = setFlag (addFlags a m p) .D d := by
  simp [addFlags, addResult_setDecimal, addTemp, setFlag_setDecimal]

theorem compareFlags_setDecimal :
    compareFlags r m (setFlag p .D d) = setFlag (compareFlags r m p) .D d := by
  simp [compareFlags, setFlag_setDecimal, setZN_setDecimal]

theorem bitFlags_setDecimal : bitFlags a m (setFlag p .D d) = setFlag (bitFlags a m p) .D d := by
  simp [bitFlags, setFlag_setDecimal]

theorem shiftFlags_setDecimal :
    shiftFlags c r (setFlag p .D d) = setFlag (shiftFlags c r p) .D d := by
  simp [shiftFlags, setFlag_setDecimal, setZN_setDecimal]

end SetDecimal

/-- No other operation reads D, and none of them writes it: setting D first or last is the same. -/
theorem meaningOf_setDecimal {op : Op} (h : op ∉ [Op.php, .brk, .plp, .rti, .sed, .cld]) (o : Operand)
    (s : State) (d : Bool) :
    meaningOf op o (s.setP (setFlag s.p .D d)) =
      ((meaningOf op o s).1.setP (setFlag (meaningOf op o s).1.p .D d), (meaningOf op o s).2) := by
  cases op <;> simp [setP_setP, setA_setP, setX_setP, setY_setP, setSp_setP, setPc_setP, write_setP,
    push_setP, pushWord_setP, popState_setP, popByte_setP, popWord_setP, branch_setP, writeBack_setP,
    operandByte_setP, fetch_setP, setFlag_setDecimal, setZN_setDecimal, addResult_setDecimal, addFlags_setDecimal,
    compareFlags_setDecimal, bitFlags_setDecimal, shiftFlags_setDecimal] at h ⊢

/-! ### The decimal flag is inert (decision D20) -/

/-- What PLP, RTI, SED and CLD leave does not depend on the old D. -/
theorem meaningOf_setDecimal_of_writer {op : Op} (h : op ∈ [Op.plp, .rti, .sed, .cld]) (o : Operand)
    (s : State) (d : Bool) : meaningOf op o (s.setP (setFlag s.p .D d)) = meaningOf op o s := by
  simp only [List.mem_cons, List.not_mem_nil, or_false] at h
  rcases h with rfl | rfl | rfl | rfl
  · simp [popState_setP, popByte_setP, setP_setP]
  · simp [returnFromInterrupt_setP]
  · simp [setP_setP, setFlag_setFlag_self]
  · simp [setP_setP, setFlag_setFlag_self]

/-- The two bytes of the vector lie outside page 1. -/
theorem irqVector_ne_stackAddr : ∀ sp, irqVector ≠ stackAddr sp ∧ irqVector + 1 ≠ stackAddr sp := by
  decide

/-- The word at the vector is in no stack cell, so a push leaves it. -/
theorem read16_irqVector_push (v : Byte) (s : State) :
    (push v s).read16 irqVector = s.read16 irqVector := by
  obtain ⟨hlo, hhi⟩ := irqVector_ne_stackAddr s.sp
  simp only [State.read16, read_push, if_neg hlo, if_neg hhi]

/-- The final bookkeeping of an instruction keeps a frame. -/
theorem finish_frame {regs : List Reg} {flags : List Flag} {cells : List Addr} {t u : State}
    (h : FrameBut regs flags cells t u) (i : Instr) (s : State) (b c : Bool) :
    FrameBut regs flags cells (finish i s (t, b)) (finish i s (u, c)) where
  reg r hr := by simpa using h.reg r hr
  flag := h.flag
  mem := h.mem
  config := h.config
  resetSeen := h.resetSeen
  inputs := h.inputs

theorem getFlag_setDecimal {f : Flag} (hf : f ∉ [Flag.D]) (p : Byte) (d : Bool) :
    getFlag (setFlag p .D d) f = getFlag p f := by
  rw [getFlag_setFlag, if_neg (by simpa using hf)]

/-- Two pushes of any two bytes, from states that differ in D, differ in D and the byte pushed. -/
theorem push_frame (v w : Byte) (s : State) (d : Bool) :
    FrameBut [] [.D] [stackCell s.sp] (push v s) (push w (s.setP (setFlag s.p .D d))) := by
  refine .of_fields (.inr rfl) (.inr rfl) (.inr rfl) (.inr rfl) (fun f hf => ?flag) (fun a ha => ?mem)
    rfl rfl rfl
  case flag => exact getFlag_setDecimal hf s.p d
  case mem =>
    rw [List.mem_singleton, stackCell_eq] at ha
    simp [read_push, ha]

/-- The live status BRK leaves, with D set before. -/
theorem brk_live_setDecimal (p : Byte) (d : Bool) :
    setFlag (brkByte (setFlag p .D d)) .B false = setFlag (setFlag (brkByte p) .B false) .D d := by
  simp [brkByte, setFlag_setDecimal]

/-- Two interrupt entries whose pushed and live statuses differ. -/
theorem takeInterrupt_frame (ret : Addr) (v w live : Byte) (vector : Addr) (s : State) (p : Byte)
    (d : Bool) :
    FrameBut [] [.D] [stackCell (s.sp - 2)] (takeInterrupt ret v live vector s)
      (takeInterrupt ret w (setFlag live .D d) vector (s.setP p)) := by
  refine .of_fields (.inr ?a) (.inr ?x) (.inr ?y) (.inr ?sp) (fun f hf => ?flag) (fun a ha => ?mem)
    ?config ?resetSeen ?inputs
  case flag =>
    rw [takeInterrupt_p, takeInterrupt_p, getFlag_setDecimal hf]
  case mem =>
    have hcell : a ≠ stackAddr (s.sp - 1 - 1) := by
      rwa [List.mem_singleton, stackCell_eq, show s.sp - 2 = s.sp - 1 - 1 by bv_omega] at ha
    rw [read_takeInterrupt, read_takeInterrupt, State.setP_sp, setP_read, if_neg hcell, if_neg hcell]
  all_goals simp

/-- The handler's address does not depend on the status bytes. -/
theorem takeInterrupt_pc_setP (ret : Addr) (v w k l p : Byte) (s : State) :
    (takeInterrupt ret w l irqVector (s.setP p)).pc = (takeInterrupt ret v k irqVector s).pc := by
  rw [takeInterrupt_pc, takeInterrupt_pc, read16_irqVector_push, read16_irqVector_push, pushWord_setP]
  rfl

/-- `exec` with D set to `d` before (R28). -/
theorem exec_setDecimal (i : Instr) (s : State) (d : Bool) :
    exec i { s with p := setFlag s.p .D d } =
      .next (finish i s (meaningOf i.op i.operand
        ((modeState i s).setP (setFlag (modeState i s).p .D d)))) := by
  rw [modeState_p]
  exact exec_setP i s _

theorem exec_setDecimal_of_inert {i : Instr} {s t : State} (d : Bool) (h : exec i s = .next t)
    (hop : i.op ∉ [Op.php, .brk, .plp, .rti, .sed, .cld]) :
    exec i { s with p := setFlag s.p .D d } = .next { t with p := setFlag t.p .D d } := by
  rw [exec_setDecimal, meaningOf_setDecimal hop, eq_of_exec h]
  rfl

theorem exec_setDecimal_of_writer {i : Instr} {s t : State} (d : Bool) (h : exec i s = .next t)
    (hop : i.op ∈ [Op.plp, .rti, .sed, .cld]) :
    exec i { s with p := setFlag s.p .D d } = .next t := by
  rw [exec_setDecimal, meaningOf_setDecimal_of_writer hop, eq_of_exec h]

theorem exec_setDecimal_of_php {i : Instr} {s t : State} (d : Bool) (h : exec i s = .next t)
    (hop : i.op = .php) :
    ∃ u, exec i { s with p := setFlag s.p .D d } = .next u ∧
      FrameBut [] [.D] [stackCell s.sp] t u ∧ u.pc = t.pc ∧ u.cycles = t.cycles := by
  rw [eq_of_exec h, hop, meaningOf_php]
  refine ⟨_, exec_setDecimal i s d, ?_⟩
  rw [hop, meaningOf_php]
  refine ⟨?frame, by simp, by simp⟩
  case frame =>
    rw [← modeState_sp i s]
    exact finish_frame (push_frame _ _ (modeState i s) d) i s _ _

theorem exec_setDecimal_of_brk {i : Instr} {s t : State} (d : Bool) (h : exec i s = .next t)
    (hop : i.op = .brk) :
    ∃ u, exec i { s with p := setFlag s.p .D d } = .next u ∧
      FrameBut [] [.D] [stackCell (s.sp - 2)] t u ∧ u.pc = t.pc ∧ u.cycles = t.cycles := by
  rw [eq_of_exec h, hop, meaningOf_brk]
  refine ⟨_, exec_setDecimal i s d, ?_⟩
  rw [hop, meaningOf_brk, State.setP_pc, State.setP_p, brk_live_setDecimal]
  refine ⟨?frame, ?pc, by simp⟩
  case frame =>
    rw [← modeState_sp i s]
    exact finish_frame (takeInterrupt_frame _ _ _ _ _ (modeState i s) _ d) i s _ _
  case pc => rw [finish_pc, finish_pc, takeInterrupt_pc_setP]

/-- Settles O56, class by class of instructions. -/
theorem decimalFlagIsInert : Obligations.DecimalFlagIsInert := fun _ _ _ d h =>
  ⟨exec_setDecimal_of_inert d h, exec_setDecimal_of_writer d h, exec_setDecimal_of_php d h,
    exec_setDecimal_of_brk d h⟩

end Sys2Proof.Machine

/-! Memory and the stack (spec/20_memory.md): read after write, the canonical form, bytes and words on
the stack, who writes memory, and the bus transactions that account for it. -/

namespace Sys2Proof.Machine

/-! ### Memory -/

/-- Settles O10: `MemWrite` is a change of the field `mem`, and its cells read as R53 says. -/
theorem writeThenRead : Obligations.WriteThenRead := fun s a v => ⟨fun b => read_write s a b v, rfl⟩

/-- In the canonical form an address is listed once, so its byte is the one looked up. -/
theorem lookup_eq_some_iff {m : Memory} (h : m.Pairwise fun c d => c.1 < d.1) (a : Nat) (v : Byte) :
    lookup m a = some v ↔ (a, v) ∈ m := by
  induction m with
  | nil => simp [lookup]
  | cons c m ih =>
    obtain ⟨k, w⟩ := c
    obtain ⟨hk, hm⟩ := List.pairwise_cons.1 h
    by_cases hka : k = a
    · have hnot : (a, v) ∉ m := fun hmem => absurd (hk _ hmem) (by simp [hka])
      simp [lookup, hka, hnot, eq_comm]
    · simp [lookup, hka, Ne.symm hka, ih hm]

/-- Lists in strictly rising order of addresses are determined by their cells. -/
theorem eq_of_lookup_eq {m n : Memory} (hm : Memory.wf m) (hn : Memory.wf n)
    (h : ∀ a, lookup m a = lookup n a) : m = n := by
  obtain ⟨hm, -⟩ := hm
  obtain ⟨hn, -⟩ := hn
  have : Std.Irrefl fun c d : Host.Cell => c.1 < d.1 := ⟨fun c => lt_irrefl c.1⟩
  have : Std.Antisymm fun c d : Host.Cell => c.1 < d.1 := ⟨fun _ _ hcd hdc => absurd hcd hdc.asymm⟩
  refine hm.eq_of_mem_iff hn fun c => ?_
  obtain ⟨a, v⟩ := c
  rw [← lookup_eq_some_iff hm, ← lookup_eq_some_iff hn, h]

/-- Settles O11: a write inserts in order, and `lookup` tells which cells are listed. -/
theorem memoryIsCanonical : Obligations.MemoryIsCanonical :=
  ⟨fun _ a v => write_wf a v, fun _ _ => eq_of_lookup_eq⟩

/-! ### The stack -/

/-- What a push leaves in memory, at the address as R57 writes it. -/
theorem read_push_stackCell (v : Byte) (s : State) (a : Addr) :
    (push v s).read a = if a = stackCell s.sp then v else s.read a := by
  rw [read_push, stackCell_eq]

theorem popByte_eq_read_stackCell (s : State) : popByte s = s.read (stackCell (s.sp + 1)) := by
  rw [popByte, stackCell_eq]

/-- A pop gives back the stack pointer the push had (R59). -/
theorem popState_push_sp (v : Byte) (s : State) : (popState (push v s)).sp = s.sp := by simp

/-- Settles O12: the push, the pop, and the pop of what was pushed. -/
theorem pushAndPopUseTheStackPage : Obligations.PushAndPopUseTheStackPage := fun v s =>
  ⟨⟨push_sp v s, read_push_stackCell v s, rfl⟩, ⟨rfl, popByte_eq_read_stackCell s⟩,
    popByte_push v s, popState_push_sp v s⟩

/-! ### Words on the stack (R60) -/

/-- The three cells of an interrupt entry are different (R57). -/
theorem stackPointers_ne (sp : Byte) : sp ≠ sp - 1 ∧ sp ≠ sp - 1 - 1 ∧ sp - 1 ≠ sp - 1 - 1 := by
  refine ⟨?_, ?_, ?_⟩ <;> bv_omega

/-- What a 16-bit push leaves in memory: the low byte one stack cell below the high byte. -/
theorem read_pushWord_stackCell (w : Addr) (s : State) (a : Addr) :
    (pushWord w s).read a =
      if a = stackCell (s.sp - 1) then loByte w
      else if a = stackCell s.sp then hiByte w else s.read a := by
  rw [read_pushWord, stackCell_eq, stackCell_eq]

theorem read_pushWord_low (w : Addr) (s : State) :
    (pushWord w s).read (stackCell (s.sp - 1)) = loByte w := by
  rw [read_pushWord_stackCell, if_pos rfl]

theorem read_pushWord_high (w : Addr) (s : State) :
    (pushWord w s).read (stackCell s.sp) = hiByte w := by
  obtain ⟨hne, -, -⟩ := stackPointers_ne s.sp
  rw [read_pushWord_stackCell, if_neg (stackCell_inj.not.2 hne), if_pos rfl]

/-- Where the stack pointer does not wrap, the cell below is the address below. -/
theorem stackCell_sub_one {sp : Byte} (h : sp ≠ 0x00) : stackCell (sp - 1) = stackCell sp - 1 := by
  revert sp
  decide

/-- With no wrap a pushed word lies little-endian in memory. -/
theorem read16_pushWord {s : State} (h : s.sp ≠ 0x00) (w : Addr) :
    (pushWord w s).read16 (stackCell s.sp - 1) = w := by
  have hlow := read_pushWord_low w s
  rw [stackCell_sub_one h] at hlow
  rw [State.read16, BitVec.sub_add_cancel, read_pushWord_high, hlow, join_hiByte_loByte]

/-- A word is popped as it was pushed: the low byte first, then the high byte. -/
theorem popWord_pushWord (w : Addr) (s : State) : popWord (pushWord w s) = w := by
  have hlow : popByte (pushWord w s) = loByte w := popByte_push _ _
  have hhigh : popByte (popState (pushWord w s)) = hiByte w := by
    rw [popByte_eq_read_stackCell, popState_read, ← read_pushWord_high w s]
    simp
  rw [popWord, hhigh, hlow, join_hiByte_loByte]

/-- Settles O13, clause by clause. -/
theorem wordsOnTheStackAreLittleEndian : Obligations.WordsOnTheStackAreLittleEndian := by
  intro w s
  refine ⟨?sp, read_pushWord_high w s, read_pushWord_low w s, fun h => read16_pushWord h w,
    popWord_pushWord w s, ?restored⟩
  case sp =>
    rw [pushWord_sp]
    bv_omega
  case restored => simp [popWordState]

/-! ### The bytes of an interrupt entry (60_exceptions.md R267) -/

section InterruptEntry

variable (ret : Addr) (pushed live : Byte) (vector : Addr) (s : State)

theorem read_takeInterrupt_high :
    (takeInterrupt ret pushed live vector s).read (stackAddr s.sp) = hiByte ret := by
  obtain ⟨hlow, hstatus, -⟩ := stackPointers_ne s.sp
  rw [read_takeInterrupt, if_neg (stackAddr_inj.not.2 hstatus), if_neg (stackAddr_inj.not.2 hlow),
    if_pos rfl]

theorem read_takeInterrupt_low :
    (takeInterrupt ret pushed live vector s).read (stackAddr (s.sp - 1)) = loByte ret := by
  obtain ⟨-, -, hstatus⟩ := stackPointers_ne s.sp
  rw [read_takeInterrupt, if_neg (stackAddr_inj.not.2 hstatus), if_pos rfl]

theorem read_takeInterrupt_status :
    (takeInterrupt ret pushed live vector s).read (stackAddr (s.sp - 1 - 1)) = pushed := by
  rw [read_takeInterrupt, if_pos rfl]

end InterruptEntry

/-! ### Who writes memory (R54) -/

/-- An operation outside the list of memory writers keeps memory (R54). -/
theorem meaningOf_mem_of_notWriter {op : Op} (h : op ∉ memoryWriters) (o : Operand) (s : State) :
    (meaningOf op o s).1.mem = s.mem := by
  cases op <;> simp [memoryWriters] at h ⊢

/-- In their Implied form the shifts and rotates write back to `A` (45_shift_rotate.md R180). -/
theorem meaningOf_mem_of_impliedShift {op : Op} (h : op ∈ [Op.asl, .lsr, .rol, .ror]) (s : State) :
    (meaningOf op .implied s).1.mem = s.mem := by
  simp only [List.mem_cons, List.not_mem_nil, or_false] at h
  rcases h with rfl | rfl | rfl | rfl <;> simp [writeBack_mem]

section ChangedBytes

variable {s : State} {a b : Addr}

theorem eq_of_read_write_ne {v : Byte} (h : (s.write a v).read b ≠ s.read b) : b = a :=
  by_contra fun hb => h (read_write_ne s v hb)

theorem eq_of_read_writeBack_ne {o : Operand} {r : Byte} (h : (writeBack o r s).read b ≠ s.read b) :
    b = s.addrAbs :=
  by_contra fun hb => h (writeBack_read_ne o r s hb)

theorem eq_of_read_push_ne {v : Byte} (h : (push v s).read b ≠ s.read b) : b = stackCell s.sp :=
  by_contra fun hb => h (by rw [read_push_stackCell, if_neg hb])

theorem mem_of_read_pushWord_ne {w : Addr} (h : (pushWord w s).read b ≠ s.read b) :
    b ∈ [stackCell s.sp, stackCell (s.sp - 1)] := by
  by_contra hb
  simp only [List.mem_cons, List.not_mem_nil, or_false, not_or] at hb
  obtain ⟨hhigh, hlow⟩ := hb
  exact h (by rw [read_pushWord_stackCell, if_neg hlow, if_neg hhigh])

/-- An interrupt entry changes no byte but the three it pushes (60_exceptions.md R267). -/
theorem mem_of_read_takeInterrupt_ne {ret vector : Addr} {pushed live : Byte}
    (h : (takeInterrupt ret pushed live vector s).read b ≠ s.read b) :
    b ∈ [stackCell s.sp, stackCell (s.sp - 1), stackCell (s.sp - 2)] := by
  by_contra hb
  simp only [List.mem_cons, List.not_mem_nil, or_false, not_or, stackCell_eq,
    show s.sp - 2 = s.sp - 1 - 1 by bv_omega] at hb
  obtain ⟨hhigh, hlow, hstatus⟩ := hb
  exact h (by rw [read_takeInterrupt, if_neg hstatus, if_neg hlow, if_neg hhigh])

end ChangedBytes

/-- `a` is where `op` stores: the resolved address `abs`, or a stack cell it pushes to (R54, R58, R60). -/
def StoresAt (op : Op) (abs : Addr) (sp : Byte) (a : Addr) : Prop :=
  (op ∈ [Op.sta, .stx, .sty, .inc, .dec, .asl, .lsr, .rol, .ror] ∧ a = abs) ∨
  (op ∈ [Op.pha, .php] ∧ a = stackCell sp) ∨
  (op = .jsr ∧ a ∈ [stackCell sp, stackCell (sp - 1)]) ∨
  (op = .brk ∧ a ∈ [stackCell sp, stackCell (sp - 1), stackCell (sp - 2)])

theorem storesAt_of_meaningOf_read_ne {op : Op} {o : Operand} {s : State} {a : Addr}
    (h : (meaningOf op o s).1.read a ≠ s.read a) : StoresAt op s.addrAbs s.sp a := by
  cases op with
  | sta | stx | sty | inc | dec => exact .inl ⟨by decide, eq_of_read_write_ne h⟩
  | asl | lsr | rol | ror =>
    exact .inl ⟨by decide, eq_of_read_writeBack_ne (s := (fetch o s).setP _) h⟩
  | pha | php => exact .inr (.inl ⟨by decide, eq_of_read_push_ne h⟩)
  | jsr => exact .inr (.inr (.inl ⟨rfl, mem_of_read_pushWord_ne h⟩))
  | brk => exact .inr (.inr (.inr ⟨rfl, mem_of_read_takeInterrupt_ne h⟩))
  | _ => exact absurd (read_congr (meaningOf_mem_of_notWriter (by decide) o s) a) h

theorem exec_mem_of_notWriter {i : Instr} {s t : State} (h : exec i s = .next t)
    (hop : i.op ∉ memoryWriters) : t.mem = s.mem := by
  rw [eq_of_exec h, finish_mem, meaningOf_mem_of_notWriter hop, modeState_mem]

theorem exec_mem_of_impliedShift {i : Instr} {s t : State} (h : exec i s = .next t)
    (hop : i.op ∈ [Op.asl, .lsr, .rol, .ror]) (ho : i.operand = .implied) : t.mem = s.mem := by
  rw [eq_of_exec h, finish_mem, ho, meaningOf_mem_of_impliedShift hop, modeState_mem]

theorem storesAt_of_exec_read_ne {i : Instr} {s t : State} {a : Addr} (h : exec i s = .next t)
    (ha : t.read a ≠ s.read a) : StoresAt i.op (resolved i s) s.sp a := by
  rw [eq_of_exec h, finish_read, ← modeState_read i s] at ha
  simpa only [modeState_addrAbs, modeState_sp] using storesAt_of_meaningOf_read_ne ha

theorem mem_of_request_read_ne {e : Event} {s t : State} {a : Addr} (h : event e s = .next t)
    (he : e = .irq ∨ e = .nmi) (ha : t.read a ≠ s.read a) :
    a ∈ [stackCell s.sp, stackCell (s.sp - 1), stackCell (s.sp - 2)] := by
  obtain rfl | ⟨vector, n, rfl⟩ := request_cases h he
  · exact absurd rfl ha
  · rw [read_congr (acceptRequest_mem vector n s)] at ha
    exact mem_of_read_takeInterrupt_ne ha

/-- `Reset` leaves memory as it is (60_exceptions.md R261). -/
theorem reset_mem {s t : State} (h : event .reset s = .next t) : t.mem = s.mem :=
  (congrArg State.mem (Host.Outcome.next.inj h : doReset s = t)).symm

/-- Settles O55, clause by clause. -/
theorem memoryIsWrittenOnlyByStores : Obligations.MemoryIsWrittenOnlyByStores := fun _ _ =>
  ⟨fun _ => exec_mem_of_notWriter, fun _ => exec_mem_of_impliedShift, fun _ _ => storesAt_of_exec_read_ne,
    fun _ _ => mem_of_request_read_ne, reset_mem⟩

/-! ### Lists of transactions as the account of a change of memory (R65, R70) -/

/-- The list reads bytes that memory holds, and does nothing else. -/
def OnlyReads (s : State) (l : List Transaction) : Prop := ∃ cells : List Addr, l = cells.map (memRead s)

theorem OnlyReads.append {s : State} {l l' : List Transaction} (h : OnlyReads s l)
    (h' : OnlyReads s l') : OnlyReads s (l ++ l') := by
  obtain ⟨cells, rfl⟩ := h
  obtain ⟨cells', rfl⟩ := h'
  exact ⟨cells ++ cells', List.map_append.symm⟩

/-- `l` accounts for what happens to memory from `s` to `t`: each read sees the byte held at that moment,
the writes make `t`'s memory, and no transaction is a peek. -/
structure Accounts (s : State) (l : List Transaction) (t : State) : Prop where
  reads : readsAgree s l
  memory : (replay s l).mem = t.mem
  noPeek : ∀ x ∈ l, x.peek = false

/-- What a list does and sees depends on memory alone. -/
theorem replay_congr {s u : State} (h : u.mem = s.mem) (l : List Transaction) :
    (readsAgree u l ↔ readsAgree s l) ∧ (replay u l).mem = (replay s l).mem := by
  induction l generalizing s u with
  | nil => exact ⟨.rfl, h⟩
  | cons x l ih =>
    have hw : (u.write x.addr x.data).mem = (s.write x.addr x.data).mem := congrArg (store _ _) h
    cases hx : x.we with
    | true => simpa [readsAgree, replay, hx] using ih hw
    | false =>
      obtain ⟨hreads, hmem⟩ := ih h
      simp [readsAgree, replay, hx, read_congr h, hreads, hmem]

theorem Accounts.congr_left {s u t : State} {l : List Transaction} (h : Accounts s l t)
    (hu : u.mem = s.mem) : Accounts u l t where
  reads := (replay_congr hu l).1.2 h.reads
  memory := (replay_congr hu l).2.trans h.memory
  noPeek := h.noPeek

theorem Accounts.congr_right {s t u : State} {l : List Transaction} (h : Accounts s l t)
    (hu : u.mem = t.mem) : Accounts s l u where
  reads := h.reads
  memory := h.memory.trans hu.symm
  noPeek := h.noPeek

theorem Accounts.append {s t u : State} {l l' : List Transaction} (h : Accounts s l t)
    (h' : Accounts t l' u) : Accounts s (l ++ l') u := by
  have h'' := h'.congr_left h.memory
  exact {
    reads := (readsAgree_append s l l').2 ⟨h.reads, h''.reads⟩
    memory := by rw [replay_append, h''.memory]
    noPeek := fun x hx => (List.mem_append.1 hx).elim (h.noPeek x) (h''.noPeek x) }

theorem accounts_nil (s : State) : Accounts s [] s := ⟨trivial, rfl, by simp⟩

theorem accounts_of_onlyReads {s : State} {l : List Transaction} (h : OnlyReads s l) : Accounts s l s := by
  obtain ⟨cells, rfl⟩ := h
  have hreads : ∀ x ∈ cells.map (memRead s), x.we = false ∧ x.data = s.read x.addr := by
    simp [memRead, busRead]
  obtain ⟨hagree, hreplay⟩ := reads_only hreads
  exact ⟨hagree, congrArg State.mem hreplay, by simp [memRead, busRead]⟩

theorem accounts_busWrite (s : State) (a : Addr) (v : Byte) : Accounts s [busWrite a v] (s.write a v) :=
  ⟨trivial, rfl, by simp [busWrite]⟩

/-- The write of the byte that memory holds after the event, where nothing else was written. -/
theorem accounts_memWrite {s t : State} {a : Addr} {v : Byte} (h : t.mem = (s.write a v).mem) :
    Accounts s [memWrite t a] t := by
  rw [memWrite, read_congr h, read_write_self]
  exact (accounts_busWrite s a v).congr_right h

/-! #### Pushes -/

theorem accounts_push (v : Byte) (s : State) : Accounts s [busWrite (stackAddr s.sp) v] (push v s) :=
  (accounts_busWrite s _ v).congr_right rfl

theorem accounts_pushWord (w : Addr) (s : State) :
    Accounts s [busWrite (stackAddr s.sp) (hiByte w), busWrite (stackAddr (s.sp - 1)) (loByte w)]
      (pushWord w s) :=
  (accounts_push (hiByte w) s).append (accounts_push (loByte w) (push (hiByte w) s))

theorem accounts_takeInterrupt (ret : Addr) (pushed live : Byte) (vector : Addr) (s : State) :
    Accounts s [busWrite (stackAddr s.sp) (hiByte ret), busWrite (stackAddr (s.sp - 1)) (loByte ret),
      busWrite (stackAddr (s.sp - 1 - 1)) pushed] (takeInterrupt ret pushed live vector s) :=
  ((accounts_pushWord ret s).append (accounts_push pushed (pushWord ret s))).congr_right rfl

/-- The transactions of JSR: both pushed bytes stay as they were written. -/
theorem accounts_memWrites_pushWord {w : Addr} {s t : State} (h : t.mem = (pushWord w s).mem) :
    Accounts s [memWrite t (stackAddr s.sp), memWrite t (stackAddr (s.sp - 1))] t := by
  have hhigh := read_pushWord_high w s
  have hlow := read_pushWord_low w s
  rw [stackCell_eq] at hhigh hlow
  rw [memWrite, memWrite, read_congr h, read_congr h, hhigh, hlow]
  exact (accounts_pushWord w s).congr_right h

/-- The transactions of BRK, `Irq` and `Nmi`: three pushes to three different cells, then the vector. -/
theorem accounts_interruptBus {ret : Addr} {pushed live : Byte} {vector : Addr} {s t : State}
    (h : t.mem = (takeInterrupt ret pushed live vector s).mem) :
    Accounts s (interruptBus vector s t) t := by
  have hhigh := read_takeInterrupt_high ret pushed live vector s
  have hlow := read_takeInterrupt_low ret pushed live vector s
  have hstatus := read_takeInterrupt_status ret pushed live vector s
  rw [← read_congr h] at hhigh hlow hstatus
  have hsp : s.sp - 2 = s.sp - 1 - 1 := by bv_omega
  have hwrites := (accounts_takeInterrupt ret pushed live vector s).congr_right h
  rw [← hhigh, ← hlow, ← hstatus, ← hsp] at hwrites
  exact hwrites.append (accounts_of_onlyReads ⟨[vector, vector + 1], rfl⟩)

/-! #### The parts of an instruction -/

theorem fetchInstr_opcode (s : State) : (fetchInstr s).opcode = s.read s.pc := by
  obtain ⟨-, hop, -⟩ := decodeBytes_shape (s.read s.pc) (s.read (s.pc + 1)) (s.read (s.pc + 2)) s.config
  exact hop

theorem fetchInstr_bytes (s : State) :
    (fetchInstr s).operand.bytes =
      [s.read (s.pc + 1), s.read (s.pc + 2)].take (fetchInstr s).operand.mode.operandBytes := by
  obtain ⟨-, -, hmode, hbytes, -⟩ :=
    decodeBytes_shape (s.read s.pc) (s.read (s.pc + 1)) (s.read (s.pc + 2)) s.config
  rw [← hmode] at hbytes
  exact hbytes

theorem onlyReads_operandReads {o : Operand} {s : State} {a : Addr}
    (h : o.bytes = [s.read a, s.read (a + 1)].take o.mode.operandBytes) :
    OnlyReads s (operandReads o a) := by
  unfold operandReads
  rw [h]
  cases o.mode with
  | imp | imm => exact ⟨[], rfl⟩
  | zp0 | zpx | zpy | izx | izy | rel => exact ⟨[a], rfl⟩
  | abs | abx | aby | ind => exact ⟨[a, a + 1], rfl⟩

theorem onlyReads_pointerReads (o : Operand) (s : State) : OnlyReads s (pointerReads o s) := by
  cases o with
  | indirect ptr => exact ⟨[ptr, indirectHighAddr s.config.indirectPageWrap ptr], rfl⟩
  | indexedIndirectX zp => exact ⟨[zext16 (zp + s.x), zext16 (zp + s.x + 1)], rfl⟩
  | indirectIndexedY zp => exact ⟨[zext16 zp, zext16 (zp + 1)], rfl⟩
  | _ => exact ⟨[], rfl⟩

/-- `Fetch()` reads the byte at `addr_abs`; the Immediate byte is that byte when it was decoded from there
(41_addressing_modes.md R132, R143). -/
theorem onlyReads_fetchReads {o : Operand} {m : State}
    (h : ∀ imm8, o = .immediate imm8 → m.read m.addrAbs = imm8) : OnlyReads m (fetchReads o m) := by
  cases o with
  | implied => exact ⟨[], rfl⟩
  | immediate imm8 => exact ⟨[m.addrAbs], by simp [fetchReads, operandByte, memRead, h imm8 rfl]⟩
  | _ => exact ⟨[m.addrAbs], rfl⟩

theorem onlyReads_fetchInstr_fetchReads (s : State) :
    OnlyReads (modeState (fetchInstr s) s)
      (fetchReads (fetchInstr s).operand (modeState (fetchInstr s) s)) := by
  refine onlyReads_fetchReads fun imm8 h => ?_
  have hbytes := fetchInstr_bytes s
  rw [modeState_read, modeState_addrAbs, resolved, h]
  rw [h] at hbytes
  exact (List.cons.inj hbytes).1.symm

/-- The write-back of a shift (45_shift_rotate.md R180). -/
theorem accounts_writeBackWrites {o : Operand} {r : Byte} {m t : State}
    (h : t.mem = (writeBack o r m).mem) : Accounts m (writeBackWrites o m t) t := by
  cases o with
  | implied => exact (accounts_nil m).congr_right h
  | _ => exact accounts_memWrite h

/-- The operation's transactions account for what it does to memory. -/
theorem accounts_operationBus (op : Op) {o : Operand} {m t : State} (hreads : OnlyReads m (fetchReads o m))
    (ht : t.mem = (meaningOf op o m).1.mem) : Accounts m (operationBus op o m t) t := by
  have hfetch := accounts_of_onlyReads hreads
  cases op with
  | lda | ldx | ldy | adc | sbc | cmp | cpx | cpy | and | ora | eor | bit => exact hfetch.congr_right ht
  | asl | lsr | rol | ror => exact hfetch.append ((accounts_writeBackWrites ht).congr_left rfl)
  | inc | dec => exact hfetch.append (accounts_memWrite ht)
  | sta | stx | sty => exact accounts_memWrite ht
  | pha | php => exact accounts_memWrite ht
  | pla | plp => exact (accounts_of_onlyReads ⟨[stackAddr (m.sp + 1)], rfl⟩).congr_right ht
  | jsr => exact accounts_memWrites_pushWord ht
  | rts =>
    exact (accounts_of_onlyReads ⟨[stackAddr (m.sp + 1), stackAddr (m.sp + 2)], rfl⟩).congr_right ht
  | rti =>
    exact (accounts_of_onlyReads
      ⟨[stackAddr (m.sp + 1), stackAddr (m.sp + 2), stackAddr (m.sp + 3)], rfl⟩).congr_right ht
  | brk => exact accounts_interruptBus ht
  | _ => exact (accounts_nil m).congr_right (by simpa using ht)

/-- The boundary `Clock`: the opcode byte, operand and pointer bytes are read, then the operation runs. -/
theorem accounts_instrBus {s t : State} (h : exec (fetchInstr s) s = .next t) :
    Accounts s (instrBus (fetchInstr s) s) t := by
  have hopcode : OnlyReads s [busRead s.pc (fetchInstr s).opcode] :=
    ⟨[s.pc], by rw [fetchInstr_opcode]; rfl⟩
  have hoperand : OnlyReads s (operandReads (fetchInstr s).operand (s.pc + 1)) := by
    refine onlyReads_operandReads ?_
    rw [fetchInstr_bytes, BitVec.add_assoc]
    rfl
  have hpointer : OnlyReads s
      (pointerReads (fetchInstr s).operand (startInstr (fetchInstr s).opcode s)) :=
    onlyReads_pointerReads _ _
  have hread := accounts_of_onlyReads ((hopcode.append hoperand).append hpointer)
  have hmem : t.mem =
      (meaningOf (fetchInstr s).op (fetchInstr s).operand (modeState (fetchInstr s) s)).1.mem := by
    rw [eq_of_exec h, finish_mem]
  have hoperation := accounts_operationBus _ (onlyReads_fetchInstr_fetchReads s) hmem
  have hnext : nextOr (exec (fetchInstr s) s) s = t := by rw [h]; rfl
  rw [instrBus, hnext]
  exact hread.append (hoperation.congr_left (modeState_mem _ s).symm)

/-- What precedes the operation is at most five reads, in the Indirect mode of JMP; the longest operation
has five, in the Implied mode of BRK. -/
theorem instrBus_length_le (i : Instr) (s : State) : (instrBus i s).length ≤ 6 := by
  cases i <;> exact Nat.le_of_ble_eq_true rfl

/-! #### The events -/

theorem accounts_interruptBus_acceptRequest (vector : Addr) (n : Nat) (s : State) :
    Accounts s (interruptBus vector s (acceptRequest vector n s)) (acceptRequest vector n s) :=
  accounts_interruptBus (acceptRequest_mem vector n s)

theorem eventBus_irq {s t : State} (h : event .irq s = .next t) :
    eventBus .irq s = if getFlag s.p .I then [] else interruptBus irqVector s t := by
  simp [eventBus, h]

theorem eventBus_nmi {s t : State} (h : event .nmi s = .next t) :
    eventBus .nmi s = interruptBus nmiVector s t := by
  simp [eventBus, h]

theorem eventBus_clock {s t : State} (h : event .clock s = .next t) :
    eventBus .clock s = if s.cycles = 0 then instrBus (fetchInstr s) s else [] := by
  simp [eventBus, h]

/-- A lost `Irq` makes no transaction, a taken one the entry's (60_exceptions.md R262, R263). -/
theorem accounts_eventBus_irq {s : State} (h : event .irq s = .next (doIrq s)) :
    (eventBus .irq s).length ≤ 6 ∧ Accounts s (eventBus .irq s) (doIrq s) := by
  rw [eventBus_irq h]
  unfold doIrq
  split
  · exact ⟨Nat.zero_le _, accounts_nil s⟩
  · exact ⟨by simp [interruptBus], accounts_interruptBus_acceptRequest irqVector irqCycles s⟩

theorem accounts_eventBus {e : Event} {s t : State} (he : e = .clock ∨ e = .reset ∨ e = .irq ∨ e = .nmi)
    (h : event e s = .next t) : (eventBus e s).length ≤ 6 ∧ Accounts s (eventBus e s) t := by
  rcases event_cases h with ⟨rfl, -, hc, u, hu, rfl⟩ | ⟨rfl, -, hc, rfl⟩ | ⟨rfl, rfl⟩ |
    ⟨rfl, -, -, rfl⟩ | ⟨rfl, -, -, rfl⟩ | ⟨a, v, rfl, -⟩
  · rw [eventBus_clock h, if_pos hc]
    exact ⟨instrBus_length_le _ s, (accounts_instrBus hu).congr_right (countDown_mem u)⟩
  · rw [eventBus_clock h, if_neg hc]
    exact ⟨Nat.zero_le _, (accounts_nil s).congr_right (countDown_mem s)⟩
  · exact ⟨Nat.le_of_ble_eq_true rfl,
      (accounts_of_onlyReads ⟨[resetVector, resetVector + 1], rfl⟩).congr_right rfl⟩
  · exact accounts_eventBus_irq h
  · rw [eventBus_nmi h]
    exact ⟨by simp [interruptBus], accounts_interruptBus_acceptRequest nmiVector nmiCycles s⟩
  · simp at he

/-- Settles O59, event by event (`accounts_eventBus`). -/
theorem busTransactionsExplainMemory : Obligations.BusTransactionsExplainMemory := by
  intro e s t he h
  obtain ⟨hlength, hreads, hmemory, hnoPeek⟩ := accounts_eventBus he h
  exact ⟨hlength, hreads, hmemory, hnoPeek⟩

end Sys2Proof.Machine

/-! The encoding (spec/30_encoding.md): decoder and encoder are inverse to each other, every byte is an
opcode, and the disassembler is the decoder along a walk that only peeks. -/

namespace Sys2Proof

/-! ### Operand bytes (R81 to R83) -/

@[simp] theorem Operand.length_bytes (o : Operand) : o.bytes.length = o.mode.operandBytes := by
  cases o <;> rfl

theorem Mode.operandBytes_le (m : Mode) : m.operandBytes ≤ 2 := by
  cases m <;> decide

/-- Of the two bytes the decoder looks at, those its mode takes are the first ones of the string. -/
theorem take_getD_getD {n : Nat} {tail : List Byte} (h2 : n ≤ 2) (hn : n ≤ tail.length) :
    [tail.getD 0 0, tail.getD 1 0].take n = tail.take n := by
  match tail, n with
  | _, 0 => rfl
  | _ :: _, 1 => rfl
  | _ :: _ :: _, 2 => rfl

/-! ### The decoder on the encoder's bytes (R87, R88) -/

/-- The matrix cell at an instruction's opcode byte builds that instruction from its operand bytes: the
matrix (R87) and the list by mnemonic (R88) agree, constructor by constructor. -/
theorem decodeBytes_opcode {i : Instr} (hwf : i.wf = true) (rest : List Byte) :
    decodeBytes i.opcode ((i.operand.bytes ++ rest).getD 0 0) ((i.operand.bytes ++ rest).getD 1 0) = i := by
  cases i with
  | unimplemented b => exact decodeBytes_unassigned (List.contains_iff_mem.1 hwf) _ _
  | _ => simp [Instr.opcode, Instr.operand, Instr.form, Operand.bytes]

/-- The mode an opcode byte selects is the mode of its instruction. -/
theorem modeOf_opcode {i : Instr} (hwf : i.wf = true) : modeOf i.opcode = i.operand.mode := by
  obtain ⟨-, -, hmode, -, -⟩ := decodeBytes_shape i.opcode ((i.operand.bytes ++ []).getD 0 0)
    ((i.operand.bytes ++ []).getD 1 0) Config.default
  rw [decodeBytes_opcode hwf []] at hmode
  rw [modeOf_eq_rom Config.default, hmode]

/-- Settles O15: the mode of the opcode byte says how many operand bytes to take, and the cell of the
matrix builds the instruction back from them (`decodeBytes_opcode`). -/
theorem decodeOfEncodeIsTheInstruction : Obligations.DecodeOfEncodeIsTheInstruction := by
  intro i rest hwf
  have hlength : (modeOf i.opcode).operandBytes = i.operand.bytes.length := by
    rw [modeOf_opcode hwf, Operand.length_bytes]
  calc decode (encode i ++ rest)
      = .instr (decodeBytes i.opcode ((i.operand.bytes ++ rest).getD 0 0)
            ((i.operand.bytes ++ rest).getD 1 0))
          ((i.operand.bytes ++ rest).drop (modeOf i.opcode).operandBytes) :=
        decode_cons _ _ (by simp [hlength])
    _ = .instr i rest := by
        rw [decodeBytes_opcode hwf rest, hlength, List.drop_left]

/-! ### The encoder on the decoder's instruction -/

/-- Everything a byte string that decodes can be. -/
theorem decode_cases {bytes : List Byte} {i : Instr} {rest : List Byte} (h : decode bytes = .instr i rest) :
    ∃ b tail, bytes = b :: tail ∧ (modeOf b).operandBytes ≤ tail.length ∧
      i = decodeBytes b (tail.getD 0 0) (tail.getD 1 0) ∧ rest = tail.drop (modeOf b).operandBytes := by
  cases bytes with
  | nil => simp [decode] at h
  | cons b tail =>
    by_cases hn : (modeOf b).operandBytes ≤ tail.length
    · rw [decode_cons b tail hn] at h
      obtain ⟨rfl, rfl⟩ := DecodeResult.instr.inj h
      exact ⟨b, tail, rfl, hn, rfl, rfl⟩
    · simp [decode, Nat.lt_of_not_le hn] at h

/-- Settles O16: what the decoder builds has the opcode byte it read and the operand bytes its mode takes
(`decodeBytes_shape`), and what it leaves over are the bytes behind those. -/
theorem encodeOfDecodeIsTheBytes : Obligations.EncodeOfDecodeIsTheBytes := by
  intro bytes i rest h
  obtain ⟨b, tail, rfl, hn, rfl, rfl⟩ := decode_cases h
  obtain ⟨hwf, hopcode, -, hbytes, -⟩ :=
    decodeBytes_shape b (tail.getD 0 0) (tail.getD 1 0) Config.default
  rw [← modeOf_eq_rom, take_getD_getD (Mode.operandBytes_le _) hn] at hbytes
  exact ⟨hwf, by rw [encode, hopcode, hbytes, List.cons_append, List.take_append_drop]⟩

/-! ### Every byte is an opcode (R89) -/

/-- A byte is unassigned exactly when it decodes to its placeholder. -/
theorem mem_unassignedOpcodes_iff_decodeBytes (b b1 b2 : Byte) :
    b ∈ unassignedOpcodes ↔ decodeBytes b b1 b2 = .unimplemented b := by
  refine ⟨fun hb => decodeBytes_unassigned hb b1 b2, fun hi => ?_⟩
  obtain ⟨hwf, -⟩ := decodeBytes_shape b b1 b2 Config.default
  rw [hi] at hwf
  exact List.contains_iff_mem.1 hwf

/-- The length of what an opcode byte decodes to is 1 plus the operand byte count of its mode (R82). -/
theorem decodeBytes_length (b b1 b2 : Byte) :
    (decodeBytes b b1 b2).length = 1 + (modeOf b).operandBytes := by
  obtain ⟨-, -, hmode, -, -⟩ := decodeBytes_shape b b1 b2 Config.default
  rw [Instr.length, hmode, ← modeOf_eq_rom]

/-- Settles O17: two bytes are enough for every mode, so the decoder answers with the opcode byte's cell. -/
theorem everyByteIsAnOpcode : Obligations.EveryByteIsAnOpcode := by
  refine ⟨by decide, by decide, fun b rest hrest => ?_⟩
  have hn : (modeOf b).operandBytes ≤ rest.length := (Mode.operandBytes_le _).trans hrest
  obtain ⟨-, hopcode, -⟩ := decodeBytes_shape b (rest.getD 0 0) (rest.getD 1 0) Config.default
  refine ⟨decodeBytes b (rest.getD 0 0) (rest.getD 1 0), ?_, hopcode, rfl,
    mem_unassignedOpcodes_iff_decodeBytes _ _ _, fun hb => ?_⟩
  · rw [decode_cons b rest hn, decodeBytes_length, Nat.add_sub_cancel_left]
  · rw [decodeBytes_unassigned hb]; rfl

/-- Settles O14: R90's ten words run through the decoder, the lengths of its program through
`Instr.length`. -/
theorem sampleWordsDecodeAsTheSpecSays : Obligations.SampleWordsDecodeAsTheSpecSays := by
  unfold Obligations.SampleWordsDecodeAsTheSpecSays
  decide

end Sys2Proof

namespace Sys2Proof.Machine

/-! ### The lines of the walk (R101) -/

theorem lineAt_addr (s : State) (c : Nat) : (lineAt s c).addr = cursorAddr c := rfl

/-- A cursor that is not past the end has not wrapped (decision D18). -/
theorem cursorAddr_toNat {c : Nat} {stop : Addr} (h : c ≤ stop.toNat) : (cursorAddr c).toNat = c :=
  Nat.mod_eq_of_lt (h.trans_lt stop.isLt)

/-- A walk with enough fuel begins with the line at its cursor, unless that is past the end. -/
theorem walk_head (s : State) {stop fuel c : Nat} (hfuel : stop < c + fuel) :
    (walk s stop fuel c)[0]? = if c ≤ stop then some (lineAt s c) else none := by
  split
  next hc =>
    obtain ⟨n, rfl⟩ : ∃ n, fuel = n + 1 := ⟨fuel - 1, by omega⟩
    rw [walk_line s stop n c hc]; rfl
  next hc => rw [walk_past s stop fuel c (Nat.lt_of_not_le hc)]; rfl

/-- Each line is the one at some cursor, and the line after it is the one behind its bytes. -/
theorem walk_getElem? (s : State) {stop : Nat} {l : Line} :
    ∀ {fuel c k : Nat}, stop < c + fuel → (walk s stop fuel c)[k]? = some l →
      ∃ d, d ≤ stop ∧ l = lineAt s d ∧
        (walk s stop fuel c)[k + 1]? =
          if d + 1 + l.mode.operandBytes ≤ stop then some (lineAt s (d + 1 + l.mode.operandBytes)) else none := by
  intro fuel
  induction fuel with
  | zero => intro c k _ h; simp [walk] at h
  | succ n ih =>
    intro c k hfuel h
    by_cases hc : c ≤ stop
    · rw [walk_line s stop n c hc] at h ⊢
      cases k with
      | zero =>
        obtain rfl : lineAt s c = l := by simpa using h
        exact ⟨c, hc, rfl, walk_head s (by omega)⟩
      | succ k => exact ih (by omega) h
    · simp [walk_past s stop (n + 1) c (Nat.lt_of_not_le hc)] at h

/-- Every line of a disassembly is the line at a cursor that is not past the end. -/
theorem mem_disassemble {s : State} {start stop : Addr} {l : Line} (h : l ∈ disassemble s start stop) :
    ∃ c, l = lineAt s c := by
  obtain ⟨c, -, hl⟩ := walk_mem h
  exact ⟨c, hl⟩

/-- Settles O57: the lines are those of a walk with fuel for every cursor (`walk_head`, `walk_getElem?`),
and no cursor up to the end wraps. -/
theorem disassemblyIsTheWalk : Obligations.DisassemblyIsTheWalk := by
  intro s start stop
  have hfuel : stop.toNat < start.toNat + (stop.toNat + 1 - start.toNat) := by omega
  refine ⟨fun h => walk_past _ _ _ _ h, fun h => ?first, fun k l hl => ?line⟩
  case first =>
    refine ⟨lineAt s start.toNat, (walk_head s hfuel).trans (if_pos h), ?_⟩
    simp [lineAt_addr, cursorAddr]
  case line =>
    obtain ⟨c, hc, rfl, hnext⟩ := walk_getElem? s hfuel hl
    change (disassemble s start stop)[k + 1]? = _ at hnext
    rw [hnext, lineAt_addr, cursorAddr_toNat hc]
    refine ⟨hc, lineAt_shows s c, fun l' hl' => ?_, fun hlast => ?_⟩
    · obtain ⟨hle, hline⟩ := Option.ite_none_right_eq_some.1 hl'
      rw [← Option.some.inj hline, lineAt_addr, cursorAddr_toNat hle]
    · by_contra hle
      simp [Nat.le_of_not_lt hle] at hlast

/-! ### The target of a branch (R104) -/

/-- A taken branch goes to the next instruction's address plus the sign-extended operand (R200). -/
theorem exec_pc_of_branchTaken {i : Instr} {s t : State} (h : exec i s = .next t)
    (htaken : branchTaken i.op s.p = some true) : t.pc = nextPc i s + modeAddrRel i.operand s := by
  have hbranch : branchTaken i.op (modeState i s).p = some true := by simpa using htaken
  rw [eq_of_exec h, meaningOf_of_branchTaken hbranch]
  simp

/-- The operand of the Relative mode is its one byte (R81). -/
theorem eq_relative_of_mode {o : Operand} {b1 b2 : Byte} (hmode : o.mode = .rel)
    (hbytes : o.bytes = [b1, b2].take o.mode.operandBytes) : o = .relative b1 := by
  cases o with
  | relative b => exact congrArg Operand.relative (List.cons.inj hbytes).1
  | _ => cases hmode

/-- Settles O58: the line shows the instruction's operand byte and its next address (`lineAt_shows`), and
the branch adds the two (`exec_pc_of_branchTaken`). -/
theorem disassemblerShowsTheBranchTarget : Obligations.DisassemblerShowsTheBranchTarget := by
  intro s t start stop l hl hmode hpc htaken h
  obtain ⟨c, rfl⟩ := mem_disassemble hl
  have hshows := lineAt_shows s c
  rw [← hpc] at hshows
  obtain ⟨hop, hsame, hbytes, hnext⟩ := hshows
  rw [← hsame] at hbytes
  have hoperand := eq_relative_of_mode (hsame.trans hmode) hbytes
  rw [← hop] at htaken
  rw [exec_pc_of_branchTaken h htaken, hoperand, lineTarget, hnext, ← hpc]
  rfl

/-! ### The peeks of the disassembler (R52, R71) -/

theorem length_linePeeks (s : State) (l : Line) : (linePeeks s l).length = 1 + l.mode.operandBytes := by
  simp [linePeeks]

/-- The peeks behind a line are at the cursors from its own up to the next line's. -/
theorem linePeeks_addr (s : State) (c : Nat) :
    (linePeeks s (lineAt s c)).map Transaction.addr =
      (List.range' c (1 + (lineAt s c).mode.operandBytes)).map cursorAddr := by
  simp [linePeeks, List.range'_eq_map_range, lineAt_addr, cursorAddr_add, Function.comp_def]

/-- The peeks behind a walk are at consecutive cursors. -/
theorem walk_peeks_addr (s : State) (stop fuel c : Nat) :
    ((walk s stop fuel c).flatMap (linePeeks s)).map Transaction.addr =
      (List.range' c ((walk s stop fuel c).flatMap (linePeeks s)).length).map cursorAddr := by
  induction fuel generalizing c with
  | zero => rfl
  | succ n ih =>
    by_cases hc : c ≤ stop
    · rw [walk_line s stop n c hc, List.flatMap_cons, List.map_append, List.length_append, length_linePeeks,
        linePeeks_addr, ih, Nat.add_assoc c, ← List.map_append, List.range'_append_1]
    · simp [walk_past s stop (n + 1) c (Nat.lt_of_not_le hc)]

/-- Settles O60: the transactions are peeks of memory, line by line (`linePeeks_data`), and each line's
cursors begin where those of the line before it end (`walk_peeks_addr`). -/
theorem disassemblerOnlyPeeks : Obligations.DisassemblerOnlyPeeks := by
  intro s start stop
  refine ⟨fun x hx => ?peeks, ?addresses, ?bytes⟩
  case peeks =>
    obtain ⟨a, rfl⟩ := disassembleBus_mem hx
    exact ⟨rfl, rfl, rfl⟩
  case addresses =>
    rw [disassembleBus, disassemble, walk_peeks_addr, List.range'_eq_map_range]
    simp [cursorAddr, Function.comp_def, BitVec.ofNat_add]
  case bytes =>
    rw [disassembleBus, List.map_flatMap]
    refine List.flatMap_congr fun l hl => ?_
    obtain ⟨c, rfl⟩ := mem_disassemble hl
    exact linePeeks_data s c

end Sys2Proof.Machine

/-! The sequencer (spec/40_sequencer.md): what a step does, what a `Clock` does at a Boundary and InFlight,
and how many cycles an instruction takes. -/

namespace Sys2Proof.Machine

/-! ### The step and its event (R122) -/

theorem step_of_inputs_nil {s : State} (hi : s.inputs = []) : step s = event .clock s := by
  simp [step, hi]

theorem step_of_inputs_cons {s : State} {e : Event} {rest : List Event} (hi : s.inputs = e :: rest) :
    step s = event e (s.setInputs rest) := by
  simp [step, hi]

/-- Settles O4, by whether an input is listed. -/
theorem stepIsTheNextInputsEvent : Obligations.StepIsTheNextInputsEvent :=
  fun _ => ⟨step_of_inputs_nil, fun _ _ => step_of_inputs_cons⟩

/-! ### The `Clock` at a Boundary and InFlight (R110, R113) -/

theorem event_clock_boundary {s t : State} (hr : s.resetSeen = true) (hc : s.cycles = 0)
    (h : exec (fetchInstr s) s = .next t) : event .clock s = .next (countDown t) :=
  (afterReset_of_resetSeen clock hr).trans (clock_boundary hc h)

theorem event_clock_inFlight {s : State} (hr : s.resetSeen = true) (hc : s.cycles ≠ 0) :
    event .clock s = .next (countDown s) :=
  (afterReset_of_resetSeen clock hr).trans (clock_inFlight hc)

theorem countDown_of_cycles_eq_succ {s : State} {n : Nat} (hc : s.cycles = n + 1) :
    countDown s = s.setCycles n := by
  simp [countDown, hc]

/-- Settles O6: InFlight, `Clock` is the countdown alone, and only a boundary `Clock` makes transactions. -/
theorem inFlightClockOnlyCountsDown : Obligations.InFlightClockOnlyCountsDown := by
  intro s n hr hc
  have hne : s.cycles ≠ 0 := by simp [hc]
  have hclock := event_clock_inFlight hr hne
  refine ⟨?countdown, ?noTransaction⟩
  case countdown =>
    rw [hclock, countDown_of_cycles_eq_succ hc]
    rfl
  case noTransaction => rw [eventBus_clock hclock, if_neg hne]

theorem step_boundary {s t : State} (hr : s.resetSeen = true) (hc : s.cycles = 0) (hi : s.inputs = [])
    (h : exec (fetchInstr s) s = .next t) : step s = .next (countDown t) :=
  (step_of_inputs_nil hi).trans (event_clock_boundary hr hc h)

theorem step_inFlight {s : State} (hr : s.resetSeen = true) (hc : s.cycles ≠ 0) (hi : s.inputs = []) :
    step s = .next (countDown s) :=
  (step_of_inputs_nil hi).trans (event_clock_inFlight hr hc)

/-- Settles O5: with no input listed the step is the boundary `Clock`, which runs the instruction that the
bytes at `PC` decode to. -/
theorem stepRunsTheDecodedInstruction : Obligations.StepRunsTheDecodedInstruction := by
  intro s i rest hr hc hi hdecode
  obtain rfl := fetchInstr_of_decode hdecode
  obtain ⟨t, ht⟩ := exec_isNext (fetchInstr s) s
  exact ⟨t, ht, step_boundary hr hc hi ht, (exec_opcode ht).trans (fetchInstr_opcode s)⟩

/-! ### The page-cross cycle (R114 to R116) -/

/-- The operations that signal a possible extra cycle (R116, decision D11); NOP aside, whose signal depends
on `EXTRA_NOP_OPCODES` (R252). -/
def signallingOps : List Op := [.lda, .ldx, .ldy, .adc, .sbc, .cmp, .and, .ora, .eor]

theorem meaningOf_signal {op : Op} (h : op ≠ .nop) (o : Operand) (s : State) :
    (meaningOf op o s).2 = decide (op ∈ signallingOps) := by
  cases op with
  | nop => exact absurd rfl h
  | _ => rfl

theorem mode_of_modeSignal {o : Operand} {s : State} (h : modeSignal o s = true) :
    o.mode ∈ [Mode.abx, .aby, .izy] := by
  cases o with
  | absoluteX | absoluteY | indirectIndexedY => simp [Operand.mode]
  | _ => simp [modeSignal] at h

theorem operand_of_op_nop {i : Instr} (h : i.op = .nop) : i.operand = .implied := by
  cases i with
  | nop => rfl
  | _ => simp [Instr.op, Instr.form] at h

/-- The cycle is granted when both sides signal (R114). NOP's own signal grants nothing, because its one row
is Implied, a mode that never signals. -/
theorem grantedCycle_eq (i : Instr) (s u : State) :
    (modeSignal i.operand s && (meaningOf i.op i.operand u).2).toNat =
      if i.op ∈ signallingOps ∧ modeSignal i.operand s = true then 1 else 0 := by
  by_cases hnop : i.op = .nop
  · simp [operand_of_op_nop hnop, modeSignal]
  · rw [meaningOf_signal hnop]
    simp [Bool.toNat, Bool.cond_eq_ite, and_comm]

theorem branchTaken_eq_none_iff (op : Op) (p : Byte) :
    branchTaken op p = none ↔ op ∉ [Op.bcc, .bcs, .beq, .bne, .bmi, .bpl, .bvc, .bvs] := by
  cases op <;> simp [branchTaken]

/-- `cycles` after an instruction that is no branch: the base count and the granted cycle (R114). -/
theorem exec_cycles_of_notBranch {i : Instr} {s t : State} (h : exec i s = .next t)
    (hb : i.op ∉ [Op.bcc, .bcs, .beq, .bne, .bmi, .bpl, .bvc, .bvs]) :
    t.cycles = (rom s.config i.opcode).base +
      if i.op ∈ signallingOps ∧ modeSignal i.operand (startInstr i.opcode s) = true then 1 else 0 := by
  have hcycles := meaningOf_cycles_of_notBranch ((branchTaken_eq_none_iff i.op (modeState i s).p).2 hb) i.operand
  rw [eq_of_exec h, finish_cycles, hcycles, modeState_cycles, grantedCycle_eq]

/-- Settles O22: the count of `exec_cycles_of_notBranch`, and the modes that signal. -/
theorem pageCrossCycleIsGrantedExactly : Obligations.PageCrossCycleIsGrantedExactly :=
  fun _ _ _ h hb => ⟨exec_cycles_of_notBranch h hb, mode_of_modeSignal⟩

/-! ### The countdown to the next Boundary (R118) -/

theorem matrixCell_base_pos : ∀ b : Byte, ∀ r ∈ matrixCell b, 1 ≤ r.base := by decide +kernel

theorem rom_base_pos {c : Config} (hc : c.wf) (b : Byte) : 1 ≤ (rom c b).base := by
  unfold rom
  split
  next r hr => exact matrixCell_base_pos b r hr
  next => exact hc

/-- No operation takes cycles off the base count: a branch adds to it, the others leave it. -/
theorem cycles_le_meaningOf_cycles (op : Op) (o : Operand) (s : State) :
    s.cycles ≤ (meaningOf op o s).1.cycles := by
  cases hb : branchTaken op s.p with
  | none => rw [meaningOf_cycles_of_notBranch hb]
  | some taken =>
    rw [meaningOf_of_branchTaken hb, branch_cycles]
    split <;> omega

theorem exec_cycles_pos {i : Instr} {s t : State} (hc : s.config.wf) (h : exec i s = .next t) :
    1 ≤ t.cycles :=
  calc 1
    _ ≤ (rom s.config i.opcode).base := rom_base_pos hc i.opcode
    _ = (modeState i s).cycles := (modeState_cycles i s).symm
    _ ≤ (meaningOf i.op i.operand (modeState i s)).1.cycles := cycles_le_meaningOf_cycles _ _ _
    _ ≤ t.cycles := by rw [eq_of_exec h, finish_cycles]; exact Nat.le_add_right _ _

/-- With no input listed, `cycles` steps count down to the next Boundary and change nothing else. -/
theorem runSteps_setCycles (n : Nat) {s : State} (hr : s.resetSeen = true) (hi : s.inputs = []) :
    runSteps n (s.setCycles n) = .next (s.setCycles 0) := by
  induction n with
  | zero => rfl
  | succ n ih =>
    have hstep : step (s.setCycles (n + 1)) = .next (s.setCycles n) := step_inFlight hr (Nat.succ_ne_zero n) hi
    rw [runSteps_succ n hstep, ih]

/-- Settles O7: the boundary `Clock` leaves the instruction's count less one, and the rest counts down. -/
theorem instructionsTakeTheirCycles : Obligations.InstructionsTakeTheirCycles := by
  intro s t hr hc hi hwf h
  obtain ⟨-, hinputs, hseen⟩ := exec_outside h
  obtain ⟨n, hn⟩ := Nat.exists_eq_add_of_le' (exec_cycles_pos hwf h)
  have hstep : step s = .next (t.setCycles n) := by
    rw [step_boundary hr hc hi h, countDown_of_cycles_eq_succ hn]
  refine ⟨exec_cycles_pos hwf h, ?run⟩
  case run =>
    rw [hn, runSteps_succ n hstep]
    exact runSteps_setCycles n (hseen.trans hr) (hinputs.trans hi)

end Sys2Proof.Machine

/-! The addressing modes (spec/41_addressing_modes.md): what each mode leaves, when it signals a page cross,
and which instructions use the rare modes. -/

namespace Sys2Proof.Machine

/-! ### Addresses as the rules write them (spec/00_scope.md R9) -/

theorem zext16_eq_join (b : Byte) : zext16 b = join 0x00 b := by
  simp [zext16, join, BitVec.setWidth_eq_append (h := (by decide : 8 ≤ 16))]

theorem sext16_eq_join (b : Byte) :
    sext16 b = if b.getLsbD 7 then join 0xFF b else join 0x00 b := by
  revert b
  decide

theorem toNat_loByte (a : Addr) : (loByte a).toNat = a.toNat % 256 := by
  simp [loByte]

theorem toNat_hiByte (a : Addr) : (hiByte a).toNat = a.toNat / 256 := by
  have := a.isLt
  simp only [hiByte, BitVec.extractLsb'_toNat, Nat.shiftRight_eq_div_pow]
  omega

theorem add_zext16 (a : Addr) (b : Byte) : a + zext16 b = BitVec.ofNat 16 (a.toNat + b.toNat) := by
  apply BitVec.eq_of_toNat_eq
  simp [zext16, BitVec.toNat_add]

theorem otherPage_iff (a b : Addr) : otherPage a b = true ↔ hiByte a ≠ hiByte b := bne_iff_ne

/-- Adding an index changes the page exactly when it carries out of the low byte. -/
theorem otherPage_add_zext16_iff (a : Addr) (b : Byte) :
    otherPage (a + zext16 b) a = true ↔ (loByte a).toNat + b.toNat > 255 := by
  have ha := a.isLt
  have hb := b.isLt
  rw [otherPage_iff, ne_eq, ← BitVec.toNat_inj, toNat_hiByte, toNat_hiByte, toNat_loByte, add_zext16,
    BitVec.toNat_ofNat]
  omega

/-! ### What a mode leaves (R130) -/

/-- Every mode but Implied and Relative writes `addr_abs`, moves `PC` past its operand and leaves the rest. -/
theorem addrMode_of_effAddr {o : Operand} {s : State} {a : Addr} (ha : effAddr o s = a)
    (hm : o.mode ≠ .imp ∧ o.mode ≠ .rel := by exact ⟨nofun, nofun⟩) :
    addrMode o s = { s with addrAbs := a, pc := s.pc + BitVec.ofNat 16 o.mode.operandBytes } := by
  obtain ⟨himp, hrel⟩ := hm
  rw [addrMode, ha, modeAddrRel_of_not_relative hrel, modeFetched_eq, if_neg himp]
  rfl

theorem addrMode_implied (s : State) : addrMode .implied s = { s with fetched := s.a } :=
  calc addrMode .implied s
    _ = { s with fetched := s.a, pc := s.pc + 0#16 } := rfl
    _ = { s with fetched := s.a } := by rw [BitVec.add_zero]

theorem addrMode_relative (b : Byte) (s : State) :
    addrMode (.relative b) s = { s with addrRel := sext16 b, pc := s.pc + 1 } := rfl

/-! ### The users of the rare modes -/

theorem op_of_mode_zpy {i : Instr} (h : i.operand.mode = .zpy) : i.op = .ldx ∨ i.op = .stx := by
  cases i with
  | ldxZpy => exact .inl rfl
  | stxZpy => exact .inr rfl
  | _ => nomatch h

theorem op_of_mode_rel {i : Instr} (h : i.operand.mode = .rel) :
    i.op ∈ [Op.bcc, .bcs, .beq, .bne, .bmi, .bpl, .bvc, .bvs] := by
  cases i with
  | bcc | bcs | beq | bne | bmi | bpl | bvc | bvs => simp [Instr.op, Instr.form]
  | _ => nomatch h

theorem op_of_mode_ind {i : Instr} (h : i.operand.mode = .ind) : i.op = .jmp := by
  cases i with
  | jmpInd => rfl
  | _ => nomatch h

/-! ### The modes with no pointer (R131 to R138, R142) -/

/-- Settles O18, mode by mode. -/
theorem simpleModesResolve : Obligations.SimpleModesResolve := by
  refine ⟨fun s b w => ⟨⟨?implied, rfl⟩, ⟨?immediate, rfl⟩, ⟨?zeroPage, rfl⟩, ⟨?zeroPageX, rfl⟩,
    ⟨?zeroPageY, rfl⟩, ⟨?absolute, rfl⟩, ⟨?relative, rfl⟩⟩, fun _ => op_of_mode_zpy, fun _ => op_of_mode_rel⟩
  case implied => exact addrMode_implied s
  case immediate => exact addrMode_of_effAddr rfl
  case zeroPage => exact addrMode_of_effAddr (zext16_eq_join b)
  case zeroPageX => exact addrMode_of_effAddr (zext16_eq_join (b + s.x))
  case zeroPageY => exact addrMode_of_effAddr (zext16_eq_join (b + s.y))
  case absolute => exact addrMode_of_effAddr rfl
  case relative => rw [addrMode_relative, sext16_eq_join]

/-- Settles O19: the index is added to the whole word, and its carry out of the low byte is the page cross. -/
theorem absoluteIndexedModesSignalAPageCross : Obligations.AbsoluteIndexedModesSignalAPageCross :=
  fun s w =>
    ⟨addrMode_of_effAddr (add_zext16 w s.x), otherPage_add_zext16_iff w s.x, otherPage_iff _ _,
      addrMode_of_effAddr (add_zext16 w s.y), otherPage_add_zext16_iff w s.y, otherPage_iff _ _⟩

/-! ### The pointer modes (R139 to R141) -/

/-- Both bytes of a zero-page word come from zero page (decision D13). -/
theorem zeroPageWord_eq (s : State) (p : Byte) :
    zeroPageWord s p = join (s.read (join 0x00 (p + 1))) (s.read (join 0x00 p)) := by
  rw [zeroPageWord, zext16_eq_join, zext16_eq_join]

/-- The Indirect mode, by `INDIRECT_PAGE_WRAP` (R139, decision D4). -/
theorem effAddr_indirect (w : Addr) (s : State) :
    effAddr (.indirect w) s =
      if s.config.indirectPageWrap then join (s.read (join (hiByte w) (loByte w + 1))) (s.read w)
      else join (s.read (w + 1)) (s.read w) := by
  rw [effAddr, indirectHighAddr]
  split <;> rfl

/-- Settles O20: each pointer mode writes what its pointer holds, IndirectIndexedY with the index added. -/
theorem pointerModesResolve : Obligations.PointerModesResolve := by
  refine ⟨fun s b w => ⟨⟨?indirect, rfl⟩, ⟨?indexedIndirectX, rfl⟩, fun base hbase => ?indirectIndexedY⟩,
    fun _ => op_of_mode_ind⟩
  case indirect => exact addrMode_of_effAddr (effAddr_indirect w s)
  case indexedIndirectX => exact addrMode_of_effAddr (zeroPageWord_eq s (b + s.x))
  case indirectIndexedY =>
    obtain rfl : zeroPageWord s b = base := (zeroPageWord_eq s b).trans hbase.symm
    exact ⟨addrMode_of_effAddr (add_zext16 _ s.y), otherPage_add_zext16_iff _ s.y⟩

end Sys2Proof.Machine

/-! Loads and stores (spec/42_load_store.md), behind what their statements share with those of the other
instructions: the row of the opcode matrix, the frame from the "written by" lists, and where `PC` goes on. -/

namespace Sys2Proof.Machine

/-! ### The rows of an operation (30_encoding.md R87, R88) -/

/-- The rows the opcode matrix has for an operation: mode, opcode byte and base cycle count (R87). -/
def matrixRows (op : Op) : List (Mode × Nat × Nat) :=
  (List.range 256).filterMap fun n =>
    ((matrixCell (BitVec.ofNat 8 n)).filter (·.op = op)).map fun r => (r.mode, n, r.base)

theorem wf_of_op_ne_xxx {i : Instr} (h : i.op ≠ .xxx) : i.wf = true := by
  cases i with
  | unimplemented => exact absurd rfl h
  | _ => rfl

/-- The ROM entry at a well-formed instruction's opcode byte has its operation and its mode (R88). -/
theorem rom_opcode {i : Instr} (hwf : i.wf = true) (c : Config) :
    (rom c i.opcode).op = i.op ∧ (rom c i.opcode).mode = i.operand.mode := by
  obtain ⟨-, -, hmode, -, hop⟩ := decodeBytes_shape i.opcode ((i.operand.bytes ++ []).getD 0 0)
    ((i.operand.bytes ++ []).getD 1 0) c
  rw [decodeBytes_opcode hwf] at hmode hop
  exact ⟨hop.symm, hmode.symm⟩

/-- Where the ROM entry is not the placeholder, it is the matrix cell (R85). -/
theorem matrixCell_of_rom {c : Config} {b : Byte} (h : (rom c b).op ≠ .xxx) :
    ∃ r, matrixCell b = some r ∧ r.op = (rom c b).op ∧ r.mode = (rom c b).mode ∧ r.base = (rom c b).base := by
  unfold rom at h ⊢
  cases hr : matrixCell b with
  | none => simp [hr] at h
  | some r => exact ⟨r, rfl, rfl, rfl, rfl⟩

/-- The row of an instruction, the placeholder aside, is one the matrix has for its operation. -/
theorem rowOf_mem_matrixRows {i : Instr} (h : i.op ≠ .xxx) (s : State) : rowOf i s ∈ matrixRows i.op := by
  obtain ⟨hop, hmode⟩ := rom_opcode (wf_of_op_ne_xxx h) s.config
  obtain ⟨r, hcell, hrop, hrmode, hrbase⟩ := matrixCell_of_rom (hop ▸ h)
  refine List.mem_filterMap.2 ⟨i.opcode.toNat, List.mem_range.2 i.opcode.isLt, ?row⟩
  case row => simp [hcell, rowOf, hrop, hop, hrmode, hmode, hrbase]

/-! ### The frame and the next instruction -/

/-- What an instruction writes is on the "written by" lists of its operation (10_state.md R21 to R27,
20_memory.md R54); the rest is kept. -/
theorem exec_frame {i : Instr} {s t : State} {regs : List Reg} {flags : List Flag} {cells : List Addr}
    (h : exec i s = .next t) (hregs : ∀ r, i.op ∈ registerWriters r → r ∈ regs)
    (hflags : ∀ f, i.op ∈ flagWriters f → f ∈ flags)
    (hcells : ∀ a, StoresAt i.op (resolved i s) s.sp a → a ∈ cells) : FrameBut regs flags cells s t := by
  obtain ⟨hconfig, hinputs, hseen⟩ := exec_outside h
  constructor
  case reg => exact fun r hr => exec_getReg_of_notWriter h (mt (hregs r) hr)
  case flag => exact fun f hf => exec_getFlag_of_notWriter h (mt (hflags f) hf)
  case mem => exact fun a ha => not_not.1 fun hne => ha (hcells a (storesAt_of_exec_read_ne h hne))
  case config => exact hconfig
  case resetSeen => exact hseen
  case inputs => exact hinputs

/-- The operations that load `PC`: the branches, the jumps, the returns and BRK (10_state.md R33). -/
def pcWriters : List Op :=
  [.bcc, .bcs, .beq, .bne, .bmi, .bpl, .bvc, .bvs, .jmp, .jsr, .rts, .brk, .rti]

theorem meaningOf_pc_of_notWriter {op : Op} (h : op ∉ pcWriters) (o : Operand) (s : State) :
    (meaningOf op o s).1.pc = s.pc := by
  cases op <;> simp [pcWriters] at h ⊢

/-- Every other instruction goes on at the next one in memory. -/
theorem exec_pc_of_notWriter {i : Instr} {s t : State} (h : exec i s = .next t) (hop : i.op ∉ pcWriters) :
    t.pc = nextPc i s := by
  rw [eq_of_exec h, finish_pc, meaningOf_pc_of_notWriter hop, modeState_pc]

/-- `SetZN(v)` leaves the Z and N of `v` (10_state.md R30). -/
theorem zeroNegativeOf_of_setZN {t : State} {v p : Byte} (h : t.p = setZN v p) : zeroNegativeOf v t := by
  constructor
  case left => simp [h, getFlag_setZN, ← BitVec.toNat_inj, beq_eq_decide]
  case right => simp [h, getFlag_setZN]

/-! ### The loads (R150 to R152) -/

/-- `op` loads the register `r`. -/
inductive Loads : Op → Reg → Prop
  | lda : Loads .lda .A
  | ldx : Loads .ldx .X
  | ldy : Loads .ldy .Y

namespace Loads

variable {op : Op} {r : Reg}

theorem getReg_meaningOf (h : Loads op r) (o : Operand) (s : State) :
    getReg (meaningOf op o s).1 r = operandByte o s := by
  cases h <;> simp [getReg]

theorem meaningOf_p (h : Loads op r) (o : Operand) (s : State) :
    (meaningOf op o s).1.p = setZN (operandByte o s) s.p := by
  cases h <;> simp

theorem ne_xxx (h : Loads op r) : op ≠ .xxx := by
  cases h <;> decide

theorem not_pcWriter (h : Loads op r) : op ∉ pcWriters := by
  cases h <;> decide

theorem writesRegister (h : Loads op r) (q : Reg) : op ∈ registerWriters q → q ∈ [r] := by
  cases h <;> cases q <;> decide

theorem writesFlag (h : Loads op r) (f : Flag) : op ∈ flagWriters f → f ∈ [Flag.Z, .N] := by
  cases h <;> cases f <;> decide

theorem not_storesAt (h : Loads op r) (abs : Addr) (sp : Byte) (a : Addr) : ¬ StoresAt op abs sp a := by
  cases h <;> simp [StoresAt]

end Loads

/-- A load in any form, with the rows of its operation. -/
theorem exec_load {i : Instr} {r : Reg} {rows : List (Mode × Nat × Nat)} (hload : Loads i.op r)
    (hrows : matrixRows i.op ⊆ rows) (s : State) :
    ∃ t, exec i s = .next t ∧ getReg t r = operandOf i s ∧ zeroNegativeOf (operandOf i s) t ∧
      t.pc = nextPc i s ∧ FrameBut [r] [.Z, .N] [] s t ∧ rowOf i s ∈ rows := by
  obtain ⟨t, ht⟩ := exec_isNext i s
  refine ⟨t, ht, ?register, zeroNegativeOf_of_setZN (p := s.p) ?status, exec_pc_of_notWriter ht hload.not_pcWriter,
    exec_frame ht hload.writesRegister hload.writesFlag ?cells, hrows (rowOf_mem_matrixRows hload.ne_xxx s)⟩
  case register => rw [eq_of_exec ht, getReg_finish, hload.getReg_meaningOf, operandByte_modeState]
  case status => rw [eq_of_exec ht, finish_p, hload.meaningOf_p, operandByte_modeState, modeState_p]
  case cells => exact fun a ha => absurd ha (hload.not_storesAt _ _ a)

/-- Settles O23, load by load. -/
theorem loadsSetTheRegisterAndZN : Obligations.LoadsSetTheRegisterAndZN := by
  intro i s
  refine ⟨fun hop => ?lda, fun hop => ?ldx, fun hop => ?ldy⟩
  case lda => exact exec_load (r := .A) (hop ▸ .lda) (hop ▸ by decide +kernel) s
  case ldx => exact exec_load (r := .X) (hop ▸ .ldx) (hop ▸ by decide +kernel) s
  case ldy => exact exec_load (r := .Y) (hop ▸ .ldy) (hop ▸ by decide +kernel) s

/-! ### The stores (R153 to R155) -/

/-- `op` stores the register `r`. -/
inductive Stores : Op → Reg → Prop
  | sta : Stores .sta .A
  | stx : Stores .stx .X
  | sty : Stores .sty .Y

namespace Stores

variable {op : Op} {r : Reg}

theorem meaningOf_eq (h : Stores op r) (o : Operand) (s : State) :
    meaningOf op o s = (s.write s.addrAbs (getReg s r), false) := by
  cases h <;> rfl

theorem ne_xxx (h : Stores op r) : op ≠ .xxx := by
  cases h <;> decide

theorem not_pcWriter (h : Stores op r) : op ∉ pcWriters := by
  cases h <;> decide

theorem not_registerWriter (h : Stores op r) (q : Reg) : op ∉ registerWriters q := by
  cases h <;> cases q <;> decide

theorem not_flagWriter (h : Stores op r) (f : Flag) : op ∉ flagWriters f := by
  cases h <;> cases f <;> decide

theorem eq_of_storesAt (h : Stores op r) {abs : Addr} {sp : Byte} {a : Addr} (ha : StoresAt op abs sp a) :
    a = abs := by
  cases h <;> simpa [StoresAt] using ha

end Stores

/-- A store in any form, with the rows of its operation. -/
theorem exec_store {i : Instr} {r : Reg} {rows : List (Mode × Nat × Nat)} (hstore : Stores i.op r)
    (hrows : matrixRows i.op ⊆ rows) (s : State) :
    ∃ t, exec i s = .next t ∧ t.read (resolved i s) = getReg s r ∧ t.pc = nextPc i s ∧
      FrameBut [] [] [resolved i s] s t ∧ rowOf i s ∈ rows := by
  obtain ⟨t, ht⟩ := exec_isNext i s
  refine ⟨t, ht, ?byte, exec_pc_of_notWriter ht hstore.not_pcWriter, exec_frame ht ?regs ?flags ?cells,
    hrows (rowOf_mem_matrixRows hstore.ne_xxx s)⟩
  case byte =>
    rw [eq_of_exec ht, finish_read, hstore.meaningOf_eq, modeState_addrAbs, read_write_self, getReg_modeState]
  case regs => exact fun q hq => absurd hq (hstore.not_registerWriter q)
  case flags => exact fun f hf => absurd hf (hstore.not_flagWriter f)
  case cells => exact fun a ha => List.mem_singleton.2 (hstore.eq_of_storesAt ha)

/-- Settles O24, store by store. -/
theorem storesWriteOnlyTheResolvedByte : Obligations.StoresWriteOnlyTheResolvedByte := by
  intro i s
  refine ⟨fun hop => ?sta, fun hop => ?stx, fun hop => ?sty⟩
  case sta => exact exec_store (r := .A) (hop ▸ .sta) (hop ▸ by decide +kernel) s
  case stx => exact exec_store (r := .X) (hop ▸ .stx) (hop ▸ by decide +kernel) s
  case sty => exact exec_store (r := .Y) (hop ▸ .sty) (hop ▸ by decide +kernel) s

end Sys2Proof.Machine

/-! Arithmetic and compare (spec/43_arithmetic_compare.md): the adder as an equation of integers, the
instructions that use it, and the compares. -/

namespace Sys2Proof.Machine

/-! ### The adder (R160) -/

/-- `temp`, with the carry as the claims write it. -/
theorem addTemp_eq (a m p : Byte) :
    addTemp a m p = a.toNat + m.toNat + if getFlag p .C then 1 else 0 := by
  rw [addTemp, Bool.toNat, Bool.cond_eq_ite]

theorem toNat_addResult (a m p : Byte) : (addResult a m p).toNat = addTemp a m p % 256 :=
  BitVec.toNat_ofNat _ _

/-- The sign bit of the result is bit 7 of `temp`. -/
theorem getLsbD_addResult (a m p : Byte) : (addResult a m p).getLsbD 7 = (addTemp a m p).testBit 7 :=
  BitVec.getLsbD_ofNat 8 (addTemp a m p) 7

theorem getFlag_addFlags_C (a m p : Byte) : getFlag (addFlags a m p) .C = decide (addTemp a m p > 255) := by
  simp [getFlag_addFlags]

theorem getFlag_addFlags_Z (a m p : Byte) :
    getFlag (addFlags a m p) .Z = decide (addTemp a m p % 256 = 0) := by
  simp [getFlag_addFlags, ← toNat_addResult, ← BitVec.toNat_inj, beq_eq_decide]

theorem getFlag_addFlags_N (a m p : Byte) : getFlag (addFlags a m p) .N = (addResult a m p).getLsbD 7 := by
  simp [getFlag_addFlags]

/-- V: the operands' signs agree and the result's sign is another. -/
theorem getFlag_addFlags_V (a m p : Byte) :
    getFlag (addFlags a m p) .V =
      (!(a.getLsbD 7 ^^ m.getLsbD 7) && (a.getLsbD 7 ^^ (addResult a m p).getLsbD 7)) := by
  simp [getFlag_addFlags]

/-- Settles O25, flag by flag. -/
theorem addCoreFollowsTheFormula : Obligations.AddCoreFollowsTheFormula := by
  intro m s
  rw [← addTemp_eq]
  refine ⟨rfl, getFlag_addFlags_C s.a m s.p, getFlag_addFlags_Z s.a m s.p, ?overflow, ?negative, ?other, rfl⟩
  case overflow => exact (getFlag_addFlags_V s.a m s.p).trans (by rw [getLsbD_addResult])
  case negative => exact (getFlag_addFlags_N s.a m s.p).trans (getLsbD_addResult s.a m s.p)
  case other =>
    intro f hf
    simp only [List.mem_cons, List.not_mem_nil, or_false, not_or] at hf
    simp [addCore, getFlag_addFlags, hf]

/-! ### Signed overflow (R166) -/

/-- `A + m + C` with the bytes read as signed. -/
def signedSum (a m p : Byte) : Int := a.toInt + m.toInt + if getFlag p .C then 1 else 0

theorem getLsbD_seven (b : Byte) : b.getLsbD 7 = decide (128 ≤ b.toNat) :=
  (BitVec.msb_eq_getLsbD_last b).symm.trans (BitVec.msb_eq_decide b)

/-- The formula of V in numbers: the sign bit says that the byte is 128 or more. -/
theorem getFlag_addFlags_V_iff (a m p : Byte) :
    getFlag (addFlags a m p) .V = true ↔
      (128 ≤ a.toNat ↔ 128 ≤ m.toNat) ∧ ¬ (128 ≤ a.toNat ↔ 128 ≤ addTemp a m p % 256) := by
  simp only [getFlag_addFlags_V, getLsbD_seven, toNat_addResult, Bool.and_eq_true, Bool.not_eq_true',
    Bool.xor_iff_ne, ← Bool.not_eq_true, ne_eq, decide_eq_decide, not_not]

/-- V says that the signed sum does not fit in a signed byte: `temp` differs from it by 256 for each
operand with the sign bit. -/
theorem getFlag_addFlags_V_eq_signedSum (a m p : Byte) :
    getFlag (addFlags a m p) .V = decide (signedSum a m p < -128 ∨ 127 < signedSum a m p) := by
  have ha := a.isLt
  have hm := m.isLt
  rw [Bool.eq_iff_iff, getFlag_addFlags_V_iff, decide_eq_true_iff, addTemp_eq, signedSum,
    BitVec.toInt_eq_toNat_cond, BitVec.toInt_eq_toNat_cond]
  split <;> omega

/-! ### The complement SBC adds (R162) -/

theorem xor_FF (m : Byte) : m ^^^ 0xFF = ~~~m := BitVec.xor_allOnes

theorem toNat_xor_FF (m : Byte) : (m ^^^ 0xFF).toNat = 255 - m.toNat := by
  rw [xor_FF, BitVec.toNat_not]

theorem toInt_xor_FF (m : Byte) : (m ^^^ 0xFF).toInt = -m.toInt - 1 := by
  have hm := m.isLt
  rw [BitVec.toInt_eq_toNat_cond, BitVec.toInt_eq_toNat_cond, toNat_xor_FF]
  omega

/-! ### Instructions that write registers and flags only -/

theorem mem_memoryWriters_of_storesAt {op : Op} {abs : Addr} {sp : Byte} {a : Addr}
    (h : StoresAt op abs sp a) : op ∈ memoryWriters := by
  rcases h with ⟨h, -⟩ | ⟨h, -⟩ | ⟨rfl, -⟩ | ⟨rfl, -⟩
  · exact (by decide : [Op.sta, .stx, .sty, .inc, .dec, .asl, .lsr, .rol, .ror] ⊆ memoryWriters) h
  · exact (by decide : [Op.pha, .php] ⊆ memoryWriters) h
  · decide
  · decide

/-- `op` is an assigned operation that writes neither memory nor `PC`, and of the registers and flags at
most those named. -/
structure WritesOnly (op : Op) (regs : List Reg) (flags : List Flag) : Prop where
  assigned : op ≠ .xxx
  pc : op ∉ pcWriters
  memory : op ∉ memoryWriters
  reg : ∀ r, op ∈ registerWriters r → r ∈ regs
  flag : ∀ f, op ∈ flagWriters f → f ∈ flags

/-- What such an instruction has in common in every form. -/
theorem exec_of_writesOnly {i : Instr} {regs : List Reg} {flags : List Flag}
    (h : WritesOnly i.op regs flags) (s : State) :
    ∃ t, exec i s = .next t ∧ t.pc = nextPc i s ∧ FrameBut regs flags [] s t := by
  obtain ⟨t, ht⟩ := exec_isNext i s
  refine ⟨t, ht, exec_pc_of_notWriter ht h.pc, exec_frame ht h.reg h.flag fun a ha => ?cell⟩
  case cell => exact absurd (mem_memoryWriters_of_storesAt ha) h.memory

/-- Its row is one of those the matrix has for its operation. -/
theorem rowOf_mem_of_writesOnly {i : Instr} {regs : List Reg} {flags : List Flag}
    {rows : List (Mode × Nat × Nat)} (h : WritesOnly i.op regs flags) (hrows : matrixRows i.op ⊆ rows)
    (s : State) : rowOf i s ∈ rows :=
  hrows (rowOf_mem_matrixRows h.assigned s)

/-! ### ADC and SBC (R161, R162) -/

/-- `op`, with the operand byte `m`, hands the adder the byte `n`. -/
inductive Adds : Op → (m n : Byte) → Prop
  | adc (m : Byte) : Adds .adc m m
  | sbc (m : Byte) : Adds .sbc m (m ^^^ 0xFF)

namespace Adds

variable {op : Op} {m n : Byte}

theorem meaningOf_a {o : Operand} {s : State} (h : Adds op (operandByte o s) n) :
    (meaningOf op o s).1.a = addResult s.a n s.p := by
  cases h <;> rfl

theorem meaningOf_p {o : Operand} {s : State} (h : Adds op (operandByte o s) n) :
    (meaningOf op o s).1.p = addFlags s.a n s.p := by
  cases h <;> rfl

theorem writesOnly (h : Adds op m n) : WritesOnly op [.A] [.C, .Z, .V, .N] where
  assigned := by cases h <;> decide
  pc := by cases h <;> decide
  memory := by cases h <;> decide
  reg r := by cases h <;> cases r <;> decide
  flag f := by cases h <;> cases f <;> decide

end Adds

section Adder

variable {i : Instr} {s t : State} {n : Byte} (hadd : Adds i.op (operandOf i s) n) (h : exec i s = .next t)
include hadd h

/-- `A` after ADC and SBC is what the adder makes of the old `A`, its addend and the old carry. -/
theorem exec_add_a : t.a = addResult s.a n s.p := by
  rw [← operandByte_modeState] at hadd
  rw [eq_of_exec h, finish_a, hadd.meaningOf_a, modeState_a, modeState_p]

theorem exec_add_p : t.p = addFlags s.a n s.p := by
  rw [← operandByte_modeState] at hadd
  rw [eq_of_exec h, finish_p, hadd.meaningOf_p, modeState_a, modeState_p]

theorem exec_add_V :
    getFlag t.p .V = decide (signedSum s.a n s.p < -128 ∨ 127 < signedSum s.a n s.p) := by
  rw [exec_add_p hadd h, getFlag_addFlags_V_eq_signedSum]

end Adder

/-- ADC or SBC in any form, with the rows of its operation. -/
theorem exec_add {i : Instr} {s : State} {n : Byte} {rows : List (Mode × Nat × Nat)}
    (hadd : Adds i.op (operandOf i s) n) (hrows : matrixRows i.op ⊆ rows) :
    ∃ t, exec i s = .next t ∧ t.a.toNat = addTemp s.a n s.p % 256 ∧
      getFlag t.p .C = decide (255 < addTemp s.a n s.p) ∧ zeroNegativeOf t.a t ∧ t.pc = nextPc i s ∧
      FrameBut [.A] [.C, .Z, .V, .N] [] s t ∧ rowOf i s ∈ rows := by
  obtain ⟨t, ht, hpc, hframe⟩ := exec_of_writesOnly hadd.writesOnly s
  have ha := exec_add_a hadd ht
  have hp := exec_add_p hadd ht
  refine ⟨t, ht, ?result, ?carry, ⟨?zero, ?negative⟩, hpc, hframe,
    rowOf_mem_of_writesOnly hadd.writesOnly hrows s⟩
  case result => rw [ha, toNat_addResult]
  case carry => rw [hp, getFlag_addFlags_C]
  case zero => rw [ha, hp, getFlag_addFlags_Z, toNat_addResult]
  case negative => rw [ha, hp, getFlag_addFlags_N]

/-- `temp` of a subtraction: the difference with borrow, 256 above. -/
theorem addTemp_xor_FF (a m p : Byte) :
    (addTemp a (m ^^^ 0xFF) p : Int) =
      (a.toNat : Int) - m.toNat - (1 - (if getFlag p .C then 1 else 0 : Nat)) + 256 := by
  have hm := m.isLt
  rw [addTemp_eq, toNat_xor_FF]
  omega

/-- The signed sum of a subtraction is the signed difference with borrow. -/
theorem signedSum_xor_FF (a m p : Byte) :
    signedSum a (m ^^^ 0xFF) p = a.toInt - m.toInt - (1 - if getFlag p .C then 1 else 0) := by
  rw [signedSum, toInt_xor_FF]
  omega

/-- Settles O26, through what `temp` is for each of the two. -/
theorem adcAndSbcResults : Obligations.AdcAndSbcResults := by
  intro i s
  refine ⟨fun hop => ?adc, fun hop => ?sbc⟩
  case adc =>
    rw [← addTemp_eq]
    exact exec_add (hop ▸ .adc _) (hop ▸ by decide +kernel)
  case sbc =>
    have htemp := addTemp_xor_FF s.a (operandOf i s) s.p
    have hadd : Adds i.op (operandOf i s) (operandOf i s ^^^ 0xFF) := hop ▸ .sbc _
    refine (exec_add hadd (hop ▸ by decide +kernel)).imp fun t ⟨ht, ha, hc, hrest⟩ =>
      ⟨ht, ?result, ?carry, hrest⟩
    case result => omega
    case carry =>
      rw [hc, decide_eq_decide]
      omega

/-- Settles O27, through what the signed sum is for each of the two. -/
theorem overflowIsTheSignedOutcome : Obligations.OverflowIsTheSignedOutcome := by
  intro i s t h
  refine ⟨fun hop => ?adc, fun hop => ?sbc⟩
  case adc => exact exec_add_V (hop ▸ .adc _) h
  case sbc =>
    have hadd : Adds i.op (operandOf i s) (operandOf i s ^^^ 0xFF) := hop ▸ .sbc _
    rw [exec_add_V hadd h, signedSum_xor_FF]

/-- Adding `m` with carry 0, then its complement with carry 1, adds 256 in all. -/
theorem addResult_addResult_xor_FF {p q : Byte} (hp : getFlag p .C = false) (hq : getFlag q .C = true)
    (a m : Byte) : addResult (addResult a m p) (m ^^^ 0xFF) q = a := by
  have ha := a.isLt
  have hm := m.isLt
  apply BitVec.eq_of_toNat_eq
  rw [toNat_addResult, addTemp_eq, toNat_addResult, addTemp_eq, toNat_xor_FF, hp, hq, if_pos rfl,
    if_neg Bool.false_ne_true]
  omega

/-- Settles O28: the two additions are undone in the accumulator. -/
theorem adcThenSbcRestoresA : Obligations.AdcThenSbcRestoresA := by
  intro i j s t u hi hj hc ht hm hu
  have hadc : Adds i.op (operandOf i s) (operandOf i s) := hi ▸ .adc _
  have hsbc : Adds j.op (operandOf j { t with p := setFlag t.p .C true }) (operandOf i s ^^^ 0xFF) :=
    hj ▸ hm ▸ .sbc _
  calc u.a
    _ = addResult t.a (operandOf i s ^^^ 0xFF) (setFlag t.p .C true) := exec_add_a hsbc hu
    _ = addResult (addResult s.a (operandOf i s) s.p) (operandOf i s ^^^ 0xFF) (setFlag t.p .C true) := by
      rw [exec_add_a hadc ht]
    _ = s.a := addResult_addResult_xor_FF hc (by simp) s.a (operandOf i s)

/-! ### The compares (R163 to R165) -/

/-- `op` compares the register `r`. -/
inductive Compares : Op → Reg → Prop
  | cmp : Compares .cmp .A
  | cpx : Compares .cpx .X
  | cpy : Compares .cpy .Y

namespace Compares

variable {op : Op} {r : Reg}

theorem meaningOf_p (h : Compares op r) (o : Operand) (s : State) :
    (meaningOf op o s).1.p = compareFlags (getReg s r) (operandByte o s) s.p := by
  cases h <;> rfl

theorem writesOnly (h : Compares op r) : WritesOnly op [] [.C, .Z, .N] where
  assigned := by cases h <;> decide
  pc := by cases h <;> decide
  memory := by cases h <;> decide
  reg q := by cases h <;> cases q <;> decide
  flag f := by cases h <;> cases f <;> decide

end Compares

theorem getFlag_compareFlags_Z (r m p : Byte) : getFlag (compareFlags r m p) .Z = decide (r = m) := by
  have hz : (r - m == 0) = decide (r = m) := by
    rw [beq_eq_decide, decide_eq_decide]
    exact sub_eq_zero
  simpa [getFlag_compareFlags] using hz

theorem exec_compare_p {i : Instr} {r : Reg} (hcmp : Compares i.op r) {s t : State}
    (h : exec i s = .next t) : t.p = compareFlags (getReg s r) (operandOf i s) s.p := by
  rw [eq_of_exec h, finish_p, hcmp.meaningOf_p, operandByte_modeState, getReg_modeState, modeState_p]

/-- A compare in any form, with the rows of its operation. -/
theorem exec_compare {i : Instr} {r : Reg} {rows : List (Mode × Nat × Nat)} (hcmp : Compares i.op r)
    (hrows : matrixRows i.op ⊆ rows) (s : State) :
    ∃ t, exec i s = .next t ∧ getFlag t.p .C = decide ((operandOf i s).toNat ≤ (getReg s r).toNat) ∧
      getFlag t.p .Z = decide (getReg s r = operandOf i s) ∧
      getFlag t.p .N = (getReg s r - operandOf i s).getLsbD 7 ∧
      t.pc = nextPc i s ∧ FrameBut [] [.C, .Z, .N] [] s t ∧ rowOf i s ∈ rows := by
  obtain ⟨t, ht, hpc, hframe⟩ := exec_of_writesOnly hcmp.writesOnly s
  have hp := exec_compare_p hcmp ht
  refine ⟨t, ht, ?carry, ?zero, ?negative, hpc, hframe, rowOf_mem_of_writesOnly hcmp.writesOnly hrows s⟩
  case carry => simp [hp, getFlag_compareFlags]
  case zero => rw [hp, getFlag_compareFlags_Z]
  case negative => simp [hp, getFlag_compareFlags]

/-- Settles O29, compare by compare. -/
theorem comparesSetCarryZeroNegative : Obligations.ComparesSetCarryZeroNegative := by
  intro i s
  refine ⟨fun hop => ?cmp, fun hop => ?cpx, fun hop => ?cpy⟩
  case cmp => exact exec_compare (r := .A) (hop ▸ .cmp) (hop ▸ by decide +kernel) s
  case cpx => exact exec_compare (r := .X) (hop ▸ .cpx) (hop ▸ by decide +kernel) s
  case cpy => exact exec_compare (r := .Y) (hop ▸ .cpy) (hop ▸ by decide +kernel) s

end Sys2Proof.Machine

/-! Logical operations and bit test (spec/44_logical_bit.md): what AND, ORA and EOR put into `A`, and what
BIT says of its operand. -/

namespace Sys2Proof.Machine

/-! ### AND, ORA and EOR (R170 to R172) -/

/-- `op` makes the byte `r` of the accumulator `a` and the operand byte `m`. -/
inductive Combines : Op → (a m r : Byte) → Prop
  | and (a m : Byte) : Combines .and a m (a &&& m)
  | ora (a m : Byte) : Combines .ora a m (a ||| m)
  | eor (a m : Byte) : Combines .eor a m (a ^^^ m)

namespace Combines

variable {op : Op} {a m r : Byte}

theorem meaningOf_a {o : Operand} {s : State} (h : Combines op s.a (operandByte o s) r) :
    (meaningOf op o s).1.a = r := by
  cases h <;> rfl

theorem meaningOf_p {o : Operand} {s : State} (h : Combines op s.a (operandByte o s) r) :
    (meaningOf op o s).1.p = setZN r s.p := by
  cases h <;> rfl

theorem writesOnly (h : Combines op a m r) : WritesOnly op [.A] [.Z, .N] where
  assigned := by cases h <;> decide
  pc := by cases h <;> decide
  memory := by cases h <;> decide
  reg q := by cases h <;> cases q <;> decide
  flag f := by cases h <;> cases f <;> decide

end Combines

/-- AND, ORA or EOR in any form, with the rows of its operation. -/
theorem exec_combine {i : Instr} {s : State} {r : Byte} {rows : List (Mode × Nat × Nat)}
    (hcomb : Combines i.op s.a (operandOf i s) r) (hrows : matrixRows i.op ⊆ rows) :
    ∃ t, exec i s = .next t ∧ t.a = r ∧ zeroNegativeOf t.a t ∧ t.pc = nextPc i s ∧
      FrameBut [.A] [.Z, .N] [] s t ∧ rowOf i s ∈ rows := by
  obtain ⟨t, ht, hpc, hframe⟩ := exec_of_writesOnly hcomb.writesOnly s
  have hmode : Combines i.op (modeState i s).a (operandByte i.operand (modeState i s)) r := by
    rwa [modeState_a, operandByte_modeState]
  have ha : t.a = r := by rw [eq_of_exec ht, finish_a, hmode.meaningOf_a]
  have hp : t.p = setZN r s.p := by rw [eq_of_exec ht, finish_p, hmode.meaningOf_p, modeState_p]
  exact ⟨t, ht, ha, ha ▸ zeroNegativeOf_of_setZN hp, hpc, hframe,
    rowOf_mem_of_writesOnly hcomb.writesOnly hrows s⟩

/-- Settles O30, operation by operation. -/
theorem logicalResults : Obligations.LogicalResults := by
  intro i s
  refine ⟨fun hop => ?and, fun hop => ?ora, fun hop => ?eor⟩
  case and => exact exec_combine (hop ▸ .and _ _) (hop ▸ by decide +kernel)
  case ora => exact exec_combine (hop ▸ .ora _ _) (hop ▸ by decide +kernel)
  case eor => exact exec_combine (hop ▸ .eor _ _) (hop ▸ by decide +kernel)

/-! ### BIT (R173) -/

theorem bit_writesOnly : WritesOnly .bit [] [.Z, .V, .N] where
  assigned := by decide
  pc := by decide
  memory := by decide
  reg q := by cases q <;> decide
  flag f := by cases f <;> decide

theorem exec_bit_p {i : Instr} {s t : State} (hop : i.op = .bit) (h : exec i s = .next t) :
    t.p = bitFlags s.a (operandOf i s) s.p := by
  rw [eq_of_exec h, finish_p, hop, meaningOf_bit, State.setP_p, operandByte_modeState, modeState_a, modeState_p]

/-- Settles O31: the flags are those of `bitFlags`, and the rest is what BIT does not write. -/
theorem bitTestsTheOperand : Obligations.BitTestsTheOperand := by
  intro i s hop
  have hbit : WritesOnly i.op [] [.Z, .V, .N] := hop ▸ bit_writesOnly
  obtain ⟨t, ht, hpc, hframe⟩ := exec_of_writesOnly hbit s
  have hp := exec_bit_p hop ht
  refine ⟨t, ht, ?zero, ?negative, ?overflow, hpc, hframe,
    rowOf_mem_of_writesOnly hbit (hop ▸ by decide +kernel) s⟩
  case zero => simp [hp, getFlag_bitFlags, beq_eq_decide]
  case negative => simp [hp, getFlag_bitFlags]
  case overflow => simp [hp, getFlag_bitFlags]

end Sys2Proof.Machine

/-! Shifts and rotates (spec/45_shift_rotate.md): the results and the bit shifted out as numbers, then the
Implied form, which writes `A`, and the memory forms, which write the resolved byte. -/

namespace Sys2Proof.Machine

/-! ### The results as numbers (R181 to R184) -/

/-- ROL puts the carry in the bit the shift leaves 0, so that it adds the carry. -/
theorem rolResult_eq_add (c : Bool) (m : Byte) : rolResult c m = m <<< 1 + if c then 0x01 else 0x00 := by
  refine (BitVec.add_eq_or_of_and_eq_zero _ _ ?disjoint).symm
  case disjoint =>
    cases c with
    | false => exact BitVec.and_zero
    | true => ext k hk; interval_cases k <;> simp

/-- ROR puts the carry in the bit the shift leaves 0, so that it adds the carry. -/
theorem rorResult_eq_add (c : Bool) (m : Byte) : rorResult c m = (if c then 0x80 else 0x00) + m >>> 1 := by
  refine (BitVec.add_eq_or_of_and_eq_zero _ _ ?disjoint).symm
  case disjoint =>
    cases c with
    | false => exact BitVec.zero_and
    | true => ext k hk; interval_cases k <;> simp

theorem toNat_aslResult (m : Byte) : (aslResult m).toNat = 2 * m.toNat % 256 := by
  rw [aslResult, BitVec.toNat_shiftLeft, Nat.shiftLeft_eq, mul_comm]

theorem toNat_lsrResult (m : Byte) : (lsrResult m).toNat = m.toNat / 2 := by
  rw [lsrResult, BitVec.toNat_ushiftRight, Nat.shiftRight_eq_div_pow]

theorem toNat_rolResult (c : Bool) (m : Byte) :
    (rolResult c m).toNat = (2 * m.toNat + if c then 1 else 0) % 256 := by
  rw [rolResult_eq_add, BitVec.toNat_add, ← aslResult, toNat_aslResult]
  cases c <;> simp

theorem toNat_rorResult (c : Bool) (m : Byte) :
    (rorResult c m).toNat = 128 * (if c then 1 else 0) + m.toNat / 2 := by
  have hm := m.isLt
  rw [rorResult_eq_add, BitVec.toNat_add, ← lsrResult, toNat_lsrResult]
  cases c <;> simp <;> omega

theorem getLsbD_zero_eq (b : Byte) : b.getLsbD 0 = decide (b.toNat % 2 = 1) := Nat.testBit_zero b.toNat

/-! ### The write-back to memory (R180) -/

theorem writeBack_read_addrAbs {o : Operand} (ho : o ≠ .implied) (r : Byte) (s : State) :
    (writeBack o r s).read s.addrAbs = r :=
  calc (writeBack o r s).read s.addrAbs
    _ = (s.write s.addrAbs r).read s.addrAbs := read_congr (by rw [writeBack_mem, if_neg ho]) _
    _ = r := read_write_self s s.addrAbs r

/-! ### One shift or rotate, in every form (R180) -/

/-- `op`, with the carry `c` and the operand byte `m`, makes the byte `r` and shifts the bit `out` out. -/
inductive Shifts : Op → (c : Bool) → (m r : Byte) → (out : Bool) → Prop
  | asl (c : Bool) (m : Byte) : Shifts .asl c m (aslResult m) (m.getLsbD 7)
  | lsr (c : Bool) (m : Byte) : Shifts .lsr c m (lsrResult m) (m.getLsbD 0)
  | rol (c : Bool) (m : Byte) : Shifts .rol c m (rolResult c m) (m.getLsbD 7)
  | ror (c : Bool) (m : Byte) : Shifts .ror c m (rorResult c m) (m.getLsbD 0)

namespace Shifts

variable {op : Op} {c : Bool} {m r : Byte} {out : Bool}

theorem meaningOf_eq {o : Operand} {s : State} (h : Shifts op (getFlag s.p .C) (operandByte o s) r out) :
    meaningOf op o s = (writeBack o r ((fetch o s).setP (shiftFlags out r s.p)), false) := by
  cases h <;> rfl

theorem mem_shifts (h : Shifts op c m r out) : op ∈ [Op.asl, .lsr, .rol, .ror] := by
  cases h <;> decide

theorem ne_xxx (h : Shifts op c m r out) : op ≠ .xxx := by
  cases h <;> decide

theorem not_pcWriter (h : Shifts op c m r out) : op ∉ pcWriters := by
  cases h <;> decide

theorem writesRegister (h : Shifts op c m r out) (q : Reg) : op ∈ registerWriters q → q ∈ [Reg.A] := by
  cases h <;> cases q <;> decide

theorem writesFlag (h : Shifts op c m r out) (f : Flag) : op ∈ flagWriters f → f ∈ [Flag.C, .Z, .N] := by
  cases h <;> cases f <;> decide

theorem eq_of_storesAt (h : Shifts op c m r out) {abs : Addr} {sp : Byte} {a : Addr}
    (ha : StoresAt op abs sp a) : a = abs := by
  cases h <;> simpa [StoresAt] using ha

end Shifts

section Shift

variable {i : Instr} {s t : State} {r : Byte} {out : Bool}
  (hshift : Shifts i.op (getFlag s.p .C) (operandOf i s) r out) (h : exec i s = .next t)
include hshift

/-- What a shift leaves of the state its mode left. -/
theorem meaningOf_shift :
    meaningOf i.op i.operand (modeState i s) =
      (writeBack i.operand r ((fetch i.operand (modeState i s)).setP (shiftFlags out r s.p)), false) := by
  rw [← modeState_p i s]
  exact Shifts.meaningOf_eq (by rwa [modeState_p, operandByte_modeState])

include h

theorem exec_shift_p : t.p = shiftFlags out r s.p := by
  rw [eq_of_exec h, finish_p, meaningOf_shift hshift, writeBack_p, State.setP_p]

theorem exec_shift_a (ho : i.operand = .implied) : t.a = r := by
  rw [eq_of_exec h, finish_a, meaningOf_shift hshift, writeBack_a, if_pos ho]

theorem exec_shift_read_resolved (ho : i.operand ≠ .implied) : t.read (resolved i s) = r := by
  rw [eq_of_exec h, finish_read, meaningOf_shift hshift, ← modeState_addrAbs]
  exact writeBack_read_addrAbs ho r ((fetch i.operand (modeState i s)).setP _)

/-- What the Implied form and the memory forms keep alike. -/
theorem exec_shift_frame : FrameBut [.A] [.C, .Z, .N] [resolved i s] s t :=
  exec_frame h hshift.writesRegister hshift.writesFlag fun _ ha => List.mem_singleton.2 (hshift.eq_of_storesAt ha)

/-- The Implied form keeps memory. -/
theorem exec_shift_frame_implied (ho : i.operand = .implied) : FrameBut [.A] [.C, .Z, .N] [] s t :=
  { exec_shift_frame hshift h with
    mem := fun a _ => read_congr (exec_mem_of_impliedShift h hshift.mem_shifts ho) a }

/-- The memory forms keep `A`. -/
theorem exec_shift_frame_memory (ho : i.operand ≠ .implied) :
    FrameBut [] [.C, .Z, .N] [resolved i s] s t :=
  { exec_shift_frame hshift h with
    reg := fun q _ =>
      if hq : q = .A then hq ▸ exec_a_of_memoryShift h hshift.mem_shifts ho
      else (exec_shift_frame hshift h).reg q (mt List.mem_singleton.1 hq) }

end Shift

/-- A shift or rotate in any form, with the rows of its operation. -/
theorem exec_shift {i : Instr} {s : State} {r : Byte} {out : Bool} {rows : List (Mode × Nat × Nat)}
    (hshift : Shifts i.op (getFlag s.p .C) (operandOf i s) r out) (hrows : matrixRows i.op ⊆ rows) :
    ShiftsTo i s r.toNat out ∧ rowOf i s ∈ rows := by
  obtain ⟨t, ht⟩ := exec_isNext i s
  have hp := exec_shift_p hshift ht
  refine ⟨⟨t, ht, ?carry, ?zeroNegative, exec_pc_of_notWriter ht hshift.not_pcWriter, fun ho => ?implied,
    fun ho => ?memory⟩, hrows (rowOf_mem_matrixRows hshift.ne_xxx s)⟩
  case carry => simp [hp, getFlag_shiftFlags]
  case zeroNegative =>
    rw [BitVec.ofNat_toNat, BitVec.setWidth_eq]
    exact zeroNegativeOf_of_setZN hp
  case implied => exact ⟨by rw [exec_shift_a hshift ht ho], exec_shift_frame_implied hshift ht ho⟩
  case memory => exact ⟨by rw [exec_shift_read_resolved hshift ht ho], exec_shift_frame_memory hshift ht ho⟩

/-- Settles O32, operation by operation, through the number each result is. -/
theorem shiftsAndRotates : Obligations.ShiftsAndRotates := by
  intro i s m c
  refine ⟨fun hop => ?asl, fun hop => ?lsr, fun hop => ?rol, fun hop => ?ror⟩
  case asl =>
    rw [← toNat_aslResult, ← getLsbD_seven]
    exact exec_shift (hop ▸ .asl _ _) (hop ▸ by decide +kernel)
  case lsr =>
    rw [← toNat_lsrResult, ← getLsbD_zero_eq]
    exact exec_shift (hop ▸ .lsr _ _) (hop ▸ by decide +kernel)
  case rol =>
    rw [← toNat_rolResult, ← getLsbD_seven]
    exact exec_shift (hop ▸ .rol _ _) (hop ▸ by decide +kernel)
  case ror =>
    rw [← toNat_rorResult, ← getLsbD_zero_eq]
    exact exec_shift (hop ▸ .ror _ _) (hop ▸ by decide +kernel)

end Sys2Proof.Machine

/-! Increments and decrements (spec/46_inc_dec.md): the result as a number, then INC and DEC, which write the
resolved byte, and INX, DEX, INY and DEY, which write their register. -/

namespace Sys2Proof.Machine

/-! ### One more and one less, modulo 256 -/

theorem toNat_add_one (m : Byte) : (m + 1).toNat = (m.toNat + 1) % 256 := BitVec.toNat_add m 1

theorem toNat_sub_one (m : Byte) : (m - 1).toNat = (m.toNat + 255) % 256 :=
  calc (m - 1).toNat
    _ = (255 + m.toNat) % 256 := BitVec.toNat_sub m 1
    _ = (m.toNat + 255) % 256 := by rw [Nat.add_comm]

/-! ### INC and DEC (R190, R191) -/

/-- `op` makes the byte `r` of the operand byte `m` and stores it where it read `m`. -/
inductive StepsMemory : Op → (m r : Byte) → Prop
  | inc (m : Byte) : StepsMemory .inc m (m + 1)
  | dec (m : Byte) : StepsMemory .dec m (m - 1)

namespace StepsMemory

variable {op : Op} {m r : Byte}

theorem meaningOf_eq {o : Operand} {s : State} (h : StepsMemory op (operandByte o s) r) :
    meaningOf op o s = (modifyMemory r o s, false) := by
  cases h <;> rfl

theorem ne_xxx (h : StepsMemory op m r) : op ≠ .xxx := by
  cases h <;> decide

theorem not_pcWriter (h : StepsMemory op m r) : op ∉ pcWriters := by
  cases h <;> decide

theorem not_registerWriter (h : StepsMemory op m r) (q : Reg) : op ∉ registerWriters q := by
  cases h <;> cases q <;> decide

theorem writesFlag (h : StepsMemory op m r) (f : Flag) : op ∈ flagWriters f → f ∈ [Flag.Z, .N] := by
  cases h <;> cases f <;> decide

theorem eq_of_storesAt (h : StepsMemory op m r) {abs : Addr} {sp : Byte} {a : Addr}
    (ha : StoresAt op abs sp a) : a = abs := by
  cases h <;> simpa [StoresAt] using ha

end StepsMemory

theorem modifyMemory_read_addrAbs (r : Byte) (o : Operand) (s : State) :
    (modifyMemory r o s).read s.addrAbs = r :=
  read_write_self (fetch o s) s.addrAbs r

section MemoryStep

variable {i : Instr} {s t : State} {r : Byte} (hstep : StepsMemory i.op (operandOf i s) r)
include hstep

/-- What INC and DEC leave of the state their mode left. -/
theorem meaningOf_stepMemory :
    meaningOf i.op i.operand (modeState i s) = (modifyMemory r i.operand (modeState i s), false) :=
  StepsMemory.meaningOf_eq (by rwa [operandByte_modeState])

theorem exec_stepMemory_read_resolved (h : exec i s = .next t) : t.read (resolved i s) = r := by
  rw [eq_of_exec h, finish_read, meaningOf_stepMemory hstep, ← modeState_addrAbs, modifyMemory_read_addrAbs]

theorem exec_stepMemory_p (h : exec i s = .next t) : t.p = setZN r s.p := by
  rw [eq_of_exec h, finish_p, meaningOf_stepMemory hstep, modifyMemory, State.setP_p, modeState_p]

/-- INC or DEC in any form, with the rows of its operation. -/
theorem exec_stepMemory {rows : List (Mode × Nat × Nat)} (hrows : matrixRows i.op ⊆ rows) :
    ∃ t, exec i s = .next t ∧ (t.read (resolved i s)).toNat = r.toNat ∧
      zeroNegativeOf (t.read (resolved i s)) t ∧ t.pc = nextPc i s ∧
      FrameBut [] [.Z, .N] [resolved i s] s t ∧ rowOf i s ∈ rows := by
  obtain ⟨t, ht⟩ := exec_isNext i s
  have hread := exec_stepMemory_read_resolved hstep ht
  refine ⟨t, ht, congrArg _ hread, ?zeroNegative, exec_pc_of_notWriter ht hstep.not_pcWriter,
    exec_frame ht ?regs hstep.writesFlag ?cells, hrows (rowOf_mem_matrixRows hstep.ne_xxx s)⟩
  case zeroNegative => exact hread ▸ zeroNegativeOf_of_setZN (exec_stepMemory_p hstep ht)
  case regs => exact fun q hq => absurd hq (hstep.not_registerWriter q)
  case cells => exact fun a ha => List.mem_singleton.2 (hstep.eq_of_storesAt ha)

end MemoryStep

/-- Settles O33, operation by operation, through the number each result is. -/
theorem incAndDecChangeMemoryByOne : Obligations.IncAndDecChangeMemoryByOne := by
  intro i s m
  refine ⟨fun hop => ?inc, fun hop => ?dec⟩
  case inc =>
    rw [← toNat_add_one]
    exact exec_stepMemory (hop ▸ .inc _) (hop ▸ by decide +kernel)
  case dec =>
    rw [← toNat_sub_one]
    exact exec_stepMemory (hop ▸ .dec _) (hop ▸ by decide +kernel)

/-! ### INX, DEX, INY and DEY (R192 to R195) -/

/-- `op` makes the byte `v` of the byte `u` in the register `r` and puts it there. -/
inductive StepsRegister : Op → Reg → (u v : Byte) → Prop
  | inx (u : Byte) : StepsRegister .inx .X u (u + 1)
  | dex (u : Byte) : StepsRegister .dex .X u (u - 1)
  | iny (u : Byte) : StepsRegister .iny .Y u (u + 1)
  | dey (u : Byte) : StepsRegister .dey .Y u (u - 1)

namespace StepsRegister

variable {op : Op} {r : Reg} {u v : Byte}

theorem getReg_meaningOf {s : State} (h : StepsRegister op r (getReg s r) v) (o : Operand) :
    getReg (meaningOf op o s).1 r = v := by
  cases h <;> rfl

theorem meaningOf_p {s : State} (h : StepsRegister op r (getReg s r) v) (o : Operand) :
    (meaningOf op o s).1.p = setZN v s.p := by
  cases h <;> rfl

theorem writesOnly (h : StepsRegister op r u v) : WritesOnly op [r] [.Z, .N] where
  assigned := by cases h <;> decide
  pc := by cases h <;> decide
  memory := by cases h <;> decide
  reg q := by cases h <;> cases q <;> decide
  flag f := by cases h <;> cases f <;> decide

end StepsRegister

/-- Any of the four, as a change of its register. -/
theorem exec_stepRegister {i : Instr} {s : State} {r : Reg} {v : Byte}
    (hstep : StepsRegister i.op r (getReg s r) v) :
    CompletesWith i s [r] [.Z, .N] fun t =>
      (getReg t r).toNat = v.toNat ∧ zeroNegativeOf (getReg t r) t := by
  obtain ⟨t, ht, hpc, hframe⟩ := exec_of_writesOnly hstep.writesOnly s
  have hmode : StepsRegister i.op r (getReg (modeState i s) r) v := by rwa [getReg_modeState]
  have hreg : getReg t r = v := by rw [eq_of_exec ht, getReg_finish, hmode.getReg_meaningOf]
  have hp : t.p = setZN v s.p := by rw [eq_of_exec ht, finish_p, hmode.meaningOf_p, modeState_p]
  exact ⟨t, ht, ⟨congrArg _ hreg, hreg ▸ zeroNegativeOf_of_setZN hp⟩, hpc, hframe⟩

/-- Settles O34, operation by operation, through the number each result is; each has one row. -/
theorem incAndDecChangeARegisterByOne : Obligations.IncAndDecChangeARegisterByOne := by
  intro s
  simp only [← toNat_add_one, ← toNat_sub_one]
  refine ⟨⟨?inx, rfl⟩, ⟨?dex, rfl⟩, ⟨?iny, rfl⟩, ⟨?dey, rfl⟩⟩
  case inx => exact exec_stepRegister (r := .X) (.inx _)
  case dex => exact exec_stepRegister (r := .X) (.dex _)
  case iny => exact exec_stepRegister (r := .Y) (.iny _)
  case dey => exact exec_stepRegister (r := .Y) (.dey _)

end Sys2Proof.Machine

/-! Control transfer (spec/47_control_transfer.md): where the branches, JMP, JSR and RTS go, what JSR leaves on
the stack, and that RTS finds it there. Before it, what an instruction writes as lists that compute. -/

namespace Sys2Proof.Machine

/-! ### What an operation writes, as lists (10_state.md R21 to R27) -/

/-- The registers on whose "written by" list the operation stands (10_state.md R21 to R24). -/
def writtenRegs (op : Op) : List Reg := [Reg.A, .X, .Y, .SP].filter fun r => op ∈ registerWriters r

/-- The flags on whose "written by" list the operation stands (10_state.md R27). -/
def writtenFlags (op : Op) : List Flag :=
  [Flag.C, .Z, .I, .D, .B, .U, .V, .N].filter fun f => op ∈ flagWriters f

theorem mem_writtenRegs {op : Op} {r : Reg} : r ∈ writtenRegs op ↔ op ∈ registerWriters r := by
  cases r <;> simp [writtenRegs]

theorem mem_writtenFlags {op : Op} {f : Flag} : f ∈ writtenFlags op ↔ op ∈ flagWriters f := by
  cases f <;> simp [writtenFlags]

section Written

variable {i : Instr} {s t : State} {regs : List Reg} {flags : List Flag}

/-- The frame of any instruction, from the lists and the cells it stores to. -/
theorem exec_frame_of_written {cells : List Addr} (h : exec i s = .next t)
    (hregs : writtenRegs i.op ⊆ regs) (hflags : writtenFlags i.op ⊆ flags)
    (hcells : ∀ a, StoresAt i.op (resolved i s) s.sp a → a ∈ cells) : FrameBut regs flags cells s t :=
  exec_frame h (fun _ hr => hregs (mem_writtenRegs.2 hr)) (fun _ hf => hflags (mem_writtenFlags.2 hf)) hcells

/-- The frame of an instruction that stores nothing. -/
theorem exec_frame_of_not_memoryWriter (h : exec i s = .next t) (hregs : writtenRegs i.op ⊆ regs)
    (hflags : writtenFlags i.op ⊆ flags) (hmem : i.op ∉ memoryWriters) : FrameBut regs flags [] s t :=
  exec_frame_of_written h hregs hflags fun _ ha => absurd (mem_memoryWriters_of_storesAt ha) hmem

theorem writesOnly_of_written {op : Op}
    (h : op ≠ .xxx ∧ op ∉ pcWriters ∧ op ∉ memoryWriters ∧ writtenRegs op ⊆ regs ∧
      writtenFlags op ⊆ flags) : WritesOnly op regs flags := by
  obtain ⟨hassigned, hpc, hmem, hregs, hflags⟩ := h
  exact ⟨hassigned, hpc, hmem, fun _ hr => hregs (mem_writtenRegs.2 hr),
    fun _ hf => hflags (mem_writtenFlags.2 hf)⟩

end Written

/-! ### The branches (R200 to R208) -/

/-- The eight branches (R201 to R208). -/
def branchOps : List Op := [.bcc, .bcs, .beq, .bne, .bmi, .bpl, .bvc, .bvs]

/-- The rows of the eight branches, each with its operation (30_encoding.md R88). -/
def branchRows : List (Op × Mode × Nat × Nat) :=
  [(.bcc, .rel, 0x90, 2), (.bcs, .rel, 0xB0, 2), (.beq, .rel, 0xF0, 2), (.bne, .rel, 0xD0, 2),
    (.bmi, .rel, 0x30, 2), (.bpl, .rel, 0x10, 2), (.bvc, .rel, 0x50, 2), (.bvs, .rel, 0x70, 2)]

/-- The opcode matrix has those rows for the branches and no others. -/
theorem matrixRows_branch :
    ∀ op ∈ branchOps, ∀ row ∈ matrixRows op, (op, row) ∈ branchRows := by decide +kernel

/-- A branch stands on no "written by" list and stores nothing. -/
theorem branch_writes_nothing :
    ∀ op ∈ branchOps, writtenRegs op ⊆ [] ∧ writtenFlags op ⊆ [] ∧ op ∉ memoryWriters := by decide

theorem exists_relative_of_mode {o : Operand} (h : o.mode = .rel) : ∃ offset, o = .relative offset := by
  cases o with
  | relative offset => exact ⟨offset, rfl⟩
  | _ => cases h

theorem nextPc_of_relative {i : Instr} {offset : Byte} (h : i.operand = .relative offset) (s : State) :
    nextPc i s = s.pc + 2 := by
  simp [nextPc, Instr.length, h, Operand.mode, Mode.operandBytes]

section Branch

variable {i : Instr} {s t : State} {taken : Bool} (h : exec i s = .next t)
  (htaken : branchTaken i.op s.p = some taken)
include h htaken

/-- A branch is `Branch(cond)` on the state its mode left (R200). -/
theorem eq_of_exec_branch : t = finish i s (branch taken (modeState i s), false) := by
  rw [eq_of_exec h, meaningOf_of_branchTaken (by rwa [modeState_p])]

theorem exec_branch_pc :
    t.pc = if taken then nextPc i s + modeAddrRel i.operand s else nextPc i s := by
  rw [eq_of_exec_branch h htaken, finish_pc, branch_pc, modeState_pc, modeState_addrRel]

/-- The base count 2, one more when taken, one more when taken to another page (decision D12). -/
theorem exec_branch_cycles :
    t.cycles = 2 + (if taken then 1 else 0) +
      if taken ∧ hiByte (nextPc i s + modeAddrRel i.operand s) ≠ hiByte (nextPc i s) then 1 else 0 := by
  rw [eq_of_exec_branch h htaken, finish_cycles, branch_cycles, modeState_pc, modeState_addrRel,
    modeState_cycles, rom_base_of_branchTaken s.config htaken]
  cases taken with
  | false => simp
  | true => simp [Bool.toNat, Bool.cond_eq_ite, otherPage_iff]

end Branch

/-- Settles O35: which flag decides is `branchTaken`, and the row fixes the mode, hence the operand. -/
theorem branchesGoToTheirTarget : Obligations.BranchesGoToTheirTarget := by
  intro i s hop
  obtain ⟨t, ht⟩ := exec_isNext i s
  obtain ⟨taken, htaken⟩ : ∃ taken, branchTaken i.op s.p = some taken :=
    Option.ne_none_iff_exists'.1 fun hnone => (branchTaken_eq_none_iff i.op s.p).1 hnone hop
  obtain ⟨hregs, hflags, hmem⟩ := branch_writes_nothing i.op hop
  have hassigned : i.op ≠ .xxx := fun hx => absurd (hx ▸ hop) (by decide)
  have hrow : (i.op, rowOf i s) ∈ branchRows := matrixRows_branch i.op hop _ (rowOf_mem_matrixRows hassigned s)
  obtain ⟨offset, hoffset⟩ : ∃ offset, i.operand = .relative offset :=
    exists_relative_of_mode ((by decide : ∀ row ∈ branchRows, row.2.1 = .rel) _ hrow)
  have hpc := exec_branch_pc ht htaken
  have hcycles := exec_branch_cycles ht htaken
  rw [nextPc_of_relative hoffset, hoffset] at hpc hcycles
  exact ⟨offset, taken, t, hoffset, htaken, ht, hpc, hcycles,
    exec_frame_of_not_memoryWriter ht hregs hflags hmem, hrow⟩

/-! ### JMP (R209) -/

theorem exec_jmp_pc {i : Instr} {s t : State} (hop : i.op = .jmp) (h : exec i s = .next t) :
    t.pc = resolved i s := by
  rw [eq_of_exec h, hop, meaningOf_jmp, finish_pc, State.setPc_pc, modeState_addrAbs]

theorem resolved_of_absolute {i : Instr} {w : Addr} (h : i.operand = .absolute w) (s : State) :
    resolved i s = w := by
  rw [resolved, h, effAddr]

/-- Settles O36: JMP loads `PC` with the resolved address and stands on no "written by" list. -/
theorem jmpGoesToTheResolvedAddress : Obligations.JmpGoesToTheResolvedAddress := by
  intro i s hop
  obtain ⟨t, ht⟩ := exec_isNext i s
  have hpc := exec_jmp_pc hop ht
  refine ⟨t, ht, hpc, exec_frame_of_not_memoryWriter ht ?regs ?flags ?memory,
    fun w hw => hpc.trans (resolved_of_absolute hw s), ?row⟩
  case regs => exact hop ▸ by decide
  case flags => exact hop ▸ by decide
  case memory => exact hop ▸ by decide
  case row => exact (hop ▸ by decide +kernel : matrixRows i.op ⊆ _) (rowOf_mem_matrixRows (by simp [hop]) s)

/-! ### JSR and RTS (R210, R211) -/

section Jsr

variable {target : Addr} {s t : State} (h : exec (.jsr target) s = .next t)
include h

/-- JSR leaves the 16-bit push of its own address plus 2, with `PC` at its operand. -/
theorem eq_of_exec_jsr :
    t = finish (.jsr target) s
      ((pushWord (s.pc + 2) (modeState (.jsr target) s)).setPc target, false) := by
  have hreturn : nextPc (.jsr target) s - 1 = s.pc + 2 := by
    show s.pc + 3 - 1 = s.pc + 2
    bv_omega
  rw [eq_of_exec h, ← hreturn, ← modeState_pc]
  rfl

theorem exec_jsr_pc : t.pc = target := by
  rw [eq_of_exec_jsr h, finish_pc, State.setPc_pc]

theorem exec_jsr_sp : t.sp = s.sp - 2 := by
  rw [eq_of_exec_jsr h, finish_sp, State.setPc_sp, pushWord_sp, modeState_sp]
  bv_omega

theorem exec_jsr_read_high : t.read (stackCell s.sp) = hiByte (s.pc + 2) := by
  rw [eq_of_exec_jsr h, finish_read, setPc_read, ← modeState_sp (.jsr target) s, read_pushWord_high]

theorem exec_jsr_read_low : t.read (stackCell (s.sp - 1)) = loByte (s.pc + 2) := by
  rw [eq_of_exec_jsr h, finish_read, setPc_read, ← modeState_sp (.jsr target) s, read_pushWord_low]

end Jsr

/-- Settles O37, field by field. -/
theorem jsrPushesTheReturnAddress : Obligations.JsrPushesTheReturnAddress := by
  intro target s
  obtain ⟨t, ht⟩ := exec_isNext (.jsr target) s
  refine ⟨t, ht, exec_jsr_pc ht, exec_jsr_sp ht, exec_jsr_read_high ht, exec_jsr_read_low ht,
    exec_frame_of_written ht (by decide : writtenRegs .jsr ⊆ _) (by decide : writtenFlags .jsr ⊆ _)
      fun a ha => ?cells, ?row⟩
  case cells => simpa [StoresAt, Instr.op, Instr.form] using ha
  case row => simp [rowOf, Instr.operand, Instr.form, Operand.mode, Instr.opcode]

/-- The word popped, with its cells as R57 of 20_memory.md writes them. -/
theorem popWord_eq_join_stackCells (s : State) :
    popWord s = join (s.read (stackCell (s.sp + 2))) (s.read (stackCell (s.sp + 1))) := by
  have hsp : s.sp + 1 + 1 = s.sp + 2 := by bv_omega
  rw [popWord, popByte_eq_read_stackCell, popByte_eq_read_stackCell, popState_sp, popState_read, hsp]

section Rts

variable {s t : State} (h : exec .rts s = .next t)
include h

/-- RTS leaves the 16-bit pop, with `PC` one past the word popped. -/
theorem eq_of_exec_rts :
    t = finish .rts s
      ((popWordState (modeState .rts s)).setPc (popWord (modeState .rts s) + 1), false) :=
  eq_of_exec h

theorem exec_rts_pc :
    t.pc = join (s.read (stackCell (s.sp + 2))) (s.read (stackCell (s.sp + 1))) + 1 := by
  rw [eq_of_exec_rts h, finish_pc, State.setPc_pc, popWord_eq_join_stackCells, modeState_sp, modeState_read,
    modeState_read]

theorem exec_rts_sp : t.sp = s.sp + 2 := by
  rw [eq_of_exec_rts h, finish_sp, State.setPc_sp, popWordState, popState_sp, popState_sp, modeState_sp]
  bv_omega

end Rts

/-- Settles O38, field by field. -/
theorem rtsPopsTheReturnAddress : Obligations.RtsPopsTheReturnAddress := by
  intro s
  obtain ⟨t, ht⟩ := exec_isNext .rts s
  exact ⟨t, ht, exec_rts_pc ht, exec_rts_sp ht,
    exec_frame_of_not_memoryWriter ht (by decide) (by decide) (by decide), rfl⟩

/-- Settles O39: the two cells RTS pops are the two that JSR pushed, whatever lies between. -/
theorem rtsReturnsBehindTheJsr : Obligations.RtsReturnsBehindTheJsr := by
  intro target s t u v hjsr hsp hhigh hlow hrts
  rw [exec_jsr_sp hjsr] at hsp
  have hlowCell : u.sp + 1 = s.sp - 1 := by rw [hsp]; bv_omega
  have hhighCell : u.sp + 2 = s.sp := by rw [hsp]; bv_omega
  refine ⟨?pc, (exec_rts_sp hrts).trans hhighCell⟩
  case pc =>
    calc v.pc
      _ = join (u.read (stackCell s.sp)) (u.read (stackCell (s.sp - 1))) + 1 := by
        rw [exec_rts_pc hrts, hhighCell, hlowCell]
      _ = join (hiByte (s.pc + 2)) (loByte (s.pc + 2)) + 1 := by
        rw [hhigh, hlow, exec_jsr_read_high hjsr, exec_jsr_read_low hjsr]
      _ = s.pc + 3 := by rw [join_hiByte_loByte]; bv_omega

end Sys2Proof.Machine

/-! Stack, flag and transfer instructions (spec/48_stack_flag_transfer.md): one byte pushed or pulled, one flag
written, one register copied. -/

namespace Sys2Proof.Machine

/-! ### PHA and PHP (R220, R221) -/

/-- `op` pushes the byte `v`, with the accumulator `a` and the status `p`. -/
inductive Pushes : Op → (a p v : Byte) → Prop
  | pha (a p : Byte) : Pushes .pha a p a
  | php (a p : Byte) : Pushes .php a p (phpByte p)

namespace Pushes

variable {op : Op} {a p v : Byte}

theorem meaningOf_eq {s : State} (h : Pushes op s.a s.p v) (o : Operand) :
    meaningOf op o s = (push v s, false) := by
  cases h <;> rfl

theorem not_pcWriter (h : Pushes op a p v) : op ∉ pcWriters := by
  cases h <;> decide

theorem writtenRegs_subset (h : Pushes op a p v) : writtenRegs op ⊆ [.SP] := by
  cases h <;> decide

theorem writtenFlags_subset (h : Pushes op a p v) : writtenFlags op ⊆ [] := by
  cases h <;> decide

theorem eq_of_storesAt (h : Pushes op a p v) {abs : Addr} {sp : Byte} {cell : Addr}
    (hcell : StoresAt op abs sp cell) : cell = stackCell sp := by
  cases h <;> simpa [StoresAt] using hcell

end Pushes

section Push

variable {i : Instr} {s t : State} {v : Byte} (hpush : Pushes i.op s.a s.p v) (h : exec i s = .next t)
include hpush h

theorem eq_of_exec_push : t = finish i s (push v (modeState i s), false) := by
  rw [eq_of_exec h, Pushes.meaningOf_eq (by rwa [modeState_a, modeState_p])]

theorem exec_push_sp : t.sp = s.sp - 1 := by
  rw [eq_of_exec_push hpush h, finish_sp, push_sp, modeState_sp]

theorem exec_push_p : t.p = s.p := by
  rw [eq_of_exec_push hpush h, finish_p, push_p, modeState_p]

theorem exec_push_read : t.read (stackCell s.sp) = v := by
  rw [eq_of_exec_push hpush h, finish_read, read_push_stackCell, modeState_sp, if_pos rfl]

end Push

/-- A push of either kind. -/
theorem exec_push {i : Instr} {s : State} {v : Byte} (hpush : Pushes i.op s.a s.p v) :
    ∃ t, exec i s = .next t ∧ t.read (stackCell s.sp) = v ∧ t.sp = s.sp - 1 ∧ t.p = s.p ∧
      t.pc = nextPc i s ∧ FrameBut [.SP] [] [stackCell s.sp] s t := by
  obtain ⟨t, ht⟩ := exec_isNext i s
  exact ⟨t, ht, exec_push_read hpush ht, exec_push_sp hpush ht, exec_push_p hpush ht,
    exec_pc_of_notWriter ht hpush.not_pcWriter,
    exec_frame_of_written ht hpush.writtenRegs_subset hpush.writtenFlags_subset
      fun _ hcell => List.mem_singleton.2 (hpush.eq_of_storesAt hcell)⟩

/-- Settles O40: both are pushes, of `A` and of `phpByte`. -/
theorem phaAndPhpPushOneByte : Obligations.PhaAndPhpPushOneByte := by
  intro s
  constructor
  case left =>
    obtain ⟨t, ht, hread, hsp, -, hpc, hframe⟩ := exec_push (i := .pha) (s := s) (.pha _ _)
    exact ⟨t, ht, hread, hsp, hpc, hframe, rfl⟩
  case right =>
    obtain ⟨t, ht, hread, hsp, hp, hpc, hframe⟩ := exec_push (i := .php) (s := s) (.php _ _)
    exact ⟨t, ht, hread, hsp, hp, hpc, hframe, rfl⟩

/-! ### PLA and PLP (R222, R223) -/

theorem pla_writesOnly : WritesOnly .pla [.A, .SP] [.Z, .N] := writesOnly_of_written (by decide)

theorem plp_writesOnly : WritesOnly .plp [.SP] [.C, .Z, .I, .D, .B, .U, .V, .N] :=
  writesOnly_of_written (by decide)

section Pull

variable {s t : State}

/-- PLA leaves the pop, with the byte popped in `A` and its Z and N. -/
theorem eq_of_exec_pla (h : exec .pla s = .next t) :
    t = finish .pla s
      (((popState (modeState .pla s)).setA (popByte (modeState .pla s))).setP
        (setZN (popByte (modeState .pla s)) (modeState .pla s).p), false) :=
  eq_of_exec h

/-- PLP leaves the pop, with the byte popped in `P` and U set (decision D23). -/
theorem eq_of_exec_plp (h : exec .plp s = .next t) :
    t = finish .plp s ((popState (modeState .plp s)).setP (plpByte (popByte (modeState .plp s))), false) :=
  eq_of_exec h

theorem popByte_modeState (i : Instr) (s : State) :
    popByte (modeState i s) = s.read (stackCell (s.sp + 1)) := by
  rw [popByte_eq_read_stackCell, modeState_sp, modeState_read]

theorem exec_pla_a (h : exec .pla s = .next t) : t.a = s.read (stackCell (s.sp + 1)) := by
  rw [eq_of_exec_pla h, finish_a, State.setP_a, State.setA_a, popByte_modeState]

theorem exec_pla_p (h : exec .pla s = .next t) : t.p = setZN t.a s.p := by
  rw [exec_pla_a h, eq_of_exec_pla h, finish_p, State.setP_p, popByte_modeState, modeState_p]

theorem exec_pla_sp (h : exec .pla s = .next t) : t.sp = s.sp + 1 := by
  rw [eq_of_exec_pla h, finish_sp, State.setP_sp, State.setA_sp, popState_sp, modeState_sp]

theorem exec_plp_p (h : exec .plp s = .next t) : t.p = plpByte (s.read (stackCell (s.sp + 1))) := by
  rw [eq_of_exec_plp h, finish_p, State.setP_p, popByte_modeState]

theorem exec_plp_sp (h : exec .plp s = .next t) : t.sp = s.sp + 1 := by
  rw [eq_of_exec_plp h, finish_sp, State.setP_sp, popState_sp, modeState_sp]

end Pull

/-- Settles O41: what each pulls, and the rest is what it does not write. -/
theorem plaAndPlpPullOneByte : Obligations.PlaAndPlpPullOneByte := by
  intro s
  constructor
  case left =>
    obtain ⟨t, ht, hpc, hframe⟩ := exec_of_writesOnly (i := .pla) pla_writesOnly s
    exact ⟨t, ht, exec_pla_a ht, exec_pla_sp ht, zeroNegativeOf_of_setZN (exec_pla_p ht), hpc, hframe, rfl⟩
  case right =>
    obtain ⟨t, ht, hpc, hframe⟩ := exec_of_writesOnly (i := .plp) plp_writesOnly s
    exact ⟨t, ht, exec_plp_p ht, exec_plp_sp ht, hpc, hframe, rfl⟩

/-- PLP of a PHP byte: B and U, which PHP pushed as 1, stay set (10_state.md R29). -/
theorem plpByte_phpByte (p : Byte) : plpByte (phpByte p) = p ||| 0x30 :=
  BitVec.or_assoc p 0x30 0x20

/-- Settles O42: the cell a pull reads is the one the push wrote, whatever lies between. -/
theorem pullsUndoPushes : Obligations.PullsUndoPushes := by
  intro s t u v hsp hcell
  refine ⟨fun hpha hpla => ?pla, fun hphp hplp => ?plp⟩
  case pla =>
    have hpush : Pushes Instr.pha.op s.a s.p s.a := .pha _ _
    have husp : u.sp + 1 = s.sp := by rw [hsp, exec_push_sp hpush hpha, BitVec.sub_add_cancel]
    refine ⟨?_, (exec_pla_sp hpla).trans husp⟩
    rw [exec_pla_a hpla, husp, hcell, exec_push_read hpush hpha]
  case plp =>
    have hpush : Pushes Instr.php.op s.a s.p (phpByte s.p) := .php _ _
    have husp : u.sp + 1 = s.sp := by rw [hsp, exec_push_sp hpush hphp, BitVec.sub_add_cancel]
    refine ⟨?_, (exec_plp_sp hplp).trans husp⟩
    rw [exec_plp_p hplp, husp, hcell, exec_push_read hpush hphp, plpByte_phpByte]

/-! ### The flag instructions (R224 to R230) -/

/-- What an instruction that writes registers and flags only completes with. -/
theorem completesWith_of_writesOnly {i : Instr} {s : State} {regs : List Reg} {flags : List Flag}
    {post : State → Prop} (h : WritesOnly i.op regs flags) (hpost : ∀ {t}, exec i s = .next t → post t) :
    CompletesWith i s regs flags post := by
  obtain ⟨t, ht, hpc, hframe⟩ := exec_of_writesOnly h s
  exact ⟨t, ht, hpost ht, hpc, hframe⟩

/-- `op` writes `b` to the flag `f`. -/
inductive WritesFlag : Op → Flag → (b : Bool) → Prop
  | sec : WritesFlag .sec .C true
  | clc : WritesFlag .clc .C false
  | sed : WritesFlag .sed .D true
  | cld : WritesFlag .cld .D false
  | sei : WritesFlag .sei .I true
  | cli : WritesFlag .cli .I false
  | clv : WritesFlag .clv .V false

namespace WritesFlag

variable {op : Op} {f : Flag} {b : Bool}

theorem meaningOf_p (h : WritesFlag op f b) (o : Operand) (s : State) :
    (meaningOf op o s).1.p = setFlag s.p f b := by
  cases h <;> rfl

theorem writesOnly (h : WritesFlag op f b) : WritesOnly op [] [f] :=
  writesOnly_of_written (by cases h <;> decide)

end WritesFlag

/-- Any of the seven, as a change of its flag. -/
theorem exec_writeFlag {i : Instr} {f : Flag} {b : Bool} (hflag : WritesFlag i.op f b) (s : State) :
    CompletesWith i s [] [f] fun t => getFlag t.p f = b := by
  refine completesWith_of_writesOnly hflag.writesOnly fun {t} ht => ?flag
  case flag =>
    have hp : t.p = setFlag (modeState i s).p f b := by rw [eq_of_exec ht, finish_p, hflag.meaningOf_p]
    rw [hp, getFlag_setFlag, if_pos rfl]

/-- Settles O43, instruction by instruction; each has one row. -/
theorem flagInstructionsWriteOneFlag : Obligations.FlagInstructionsWriteOneFlag := fun s =>
  ⟨⟨exec_writeFlag (i := .sec) .sec s, rfl⟩, ⟨exec_writeFlag (i := .clc) .clc s, rfl⟩,
    ⟨exec_writeFlag (i := .sed) .sed s, rfl⟩, ⟨exec_writeFlag (i := .cld) .cld s, rfl⟩,
    ⟨exec_writeFlag (i := .sei) .sei s, rfl⟩, ⟨exec_writeFlag (i := .cli) .cli s, rfl⟩,
    ⟨exec_writeFlag (i := .clv) .clv s, rfl⟩⟩

/-! ### The transfers (R231 to R236) -/

/-- `op` copies the register `src` to the register `dst` and sets Z and N from it: the transfers but TXS. -/
inductive Transfers : Op → (src dst : Reg) → Prop
  | tax : Transfers .tax .A .X
  | tay : Transfers .tay .A .Y
  | txa : Transfers .txa .X .A
  | tya : Transfers .tya .Y .A
  | tsx : Transfers .tsx .SP .X

namespace Transfers

variable {op : Op} {src dst : Reg}

theorem getReg_meaningOf (h : Transfers op src dst) (o : Operand) (s : State) :
    getReg (meaningOf op o s).1 dst = getReg s src := by
  cases h <;> rfl

theorem meaningOf_p (h : Transfers op src dst) (o : Operand) (s : State) :
    (meaningOf op o s).1.p = setZN (getReg s src) s.p := by
  cases h <;> rfl

theorem writesOnly (h : Transfers op src dst) : WritesOnly op [dst] [.Z, .N] :=
  writesOnly_of_written (by cases h <;> decide)

end Transfers

/-- A transfer that sets Z and N, as a copy of its register. -/
theorem exec_transfer {i : Instr} {src dst : Reg} (htransfer : Transfers i.op src dst) (s : State) :
    CompletesWith i s [dst] [.Z, .N] fun t =>
      getReg t dst = getReg s src ∧ zeroNegativeOf (getReg s src) t := by
  refine completesWith_of_writesOnly htransfer.writesOnly fun ht =>
    ⟨?register, zeroNegativeOf_of_setZN (p := s.p) ?status⟩
  case register => rw [eq_of_exec ht, getReg_finish, htransfer.getReg_meaningOf, getReg_modeState]
  case status => rw [eq_of_exec ht, finish_p, htransfer.meaningOf_p, getReg_modeState, modeState_p]

/-- TXS copies `X` to `SP` and writes no flag (R236). -/
theorem exec_txs (s : State) : CompletesWith .txs s [.SP] [] fun t => t.sp = s.x := by
  refine completesWith_of_writesOnly (writesOnly_of_written (by decide)) fun {t} ht => ?register
  case register =>
    have hfinish : t = finish .txs s ((modeState .txs s).setSp (modeState .txs s).x, false) := eq_of_exec ht
    rw [hfinish, finish_sp, State.setSp_sp, modeState_x]

/-- Settles O44, instruction by instruction; each has one row. -/
theorem transfersCopyOneRegister : Obligations.TransfersCopyOneRegister := fun s =>
  ⟨⟨exec_transfer (i := .tax) .tax s, rfl⟩, ⟨exec_transfer (i := .tay) .tay s, rfl⟩,
    ⟨exec_transfer (i := .txa) .txa s, rfl⟩, ⟨exec_transfer (i := .tya) .tya s, rfl⟩,
    ⟨exec_transfer (i := .tsx) .tsx s, rfl⟩, ⟨exec_txs s, rfl⟩⟩

end Sys2Proof.Machine

/-! System instructions, interrupts and `Reset` (spec/49_system.md, spec/60_exceptions.md): what an interrupt
entry leaves, that RTI undoes it, the instructions without effect, and the requests. -/

namespace Sys2Proof.Machine

/-! ### NOP and the placeholder (49_system.md R252, R253) -/

theorem meaningOf_of_noEffect {op : Op} (h : op = .nop ∨ op = .xxx) (o : Operand) (s : State) :
    (meaningOf op o s).1 = s := by
  obtain rfl | rfl := h <;> rfl

/-- NOP's signal grants no cycle, because its mode never signals. -/
theorem exec_noEffect {i : Instr} (hop : i.op = .nop ∨ i.op = .xxx) (s : State) :
    CompletesWith i s [] [] fun t =>
      t.p = s.p ∧ t.mem = s.mem ∧ t.cycles = (rom s.config i.opcode).base := by
  obtain ⟨hpc, hbranch, hsignal, hregs, hflags, hmem⟩ :
      i.op ∉ pcWriters ∧ i.op ∉ branchOps ∧ i.op ∉ signallingOps ∧ writtenRegs i.op ⊆ [] ∧
        writtenFlags i.op ⊆ [] ∧ i.op ∉ memoryWriters := by
    obtain h | h := hop <;> exact h ▸ by decide
  obtain ⟨t, ht⟩ := exec_isNext i s
  refine ⟨t, ht, ⟨?status, exec_mem_of_notWriter ht hmem, ?cycles⟩, exec_pc_of_notWriter ht hpc,
    exec_frame_of_not_memoryWriter ht hregs hflags hmem⟩
  case status => rw [eq_of_exec ht, finish_p, meaningOf_of_noEffect hop, modeState_p]
  case cycles => simp [exec_cycles_of_notBranch ht hbranch, hsignal]

/-- Settles O45: the placeholder's base count is `UNIMPL_CYCLES`, its length one byte (decision D3). -/
theorem nopAndPlaceholdersHaveNoEffect : Obligations.NopAndPlaceholdersHaveNoEffect := by
  intro s
  refine ⟨⟨exec_noEffect (i := .nop) (.inl rfl) s, rfl⟩, fun b hb => ?placeholder⟩
  case placeholder =>
    obtain ⟨t, ht, ⟨hp, hmem, hcycles⟩, hpc, hframe⟩ :=
      exec_noEffect (i := .unimplemented b) (.inr rfl) s
    have hbase : (rom s.config (Instr.unimplemented b).opcode).base = s.config.unimplCycles :=
      congrArg RomEntry.base (rom_unassigned s.config hb)
    exact ⟨t, ht, ⟨hp, hmem, hcycles.trans hbase, hpc⟩, hpc, hframe⟩

/-! ### The status bytes (R250, R251, R262) -/

theorem requestByte_eq (p : Byte) : requestByte p = (p &&& 0xEF) ||| 0x20 := rfl

theorem brkByte_eq (p : Byte) : brkByte p = p ||| 0x14 := BitVec.or_assoc p 0x04 0x10

/-- RTI clears B and sets U, as `Irq` and `Nmi` did before the push. -/
theorem rtiByte_requestByte (p : Byte) : rtiByte (requestByte p) = (p &&& 0xEF) ||| 0x20 := by
  revert p
  decide

theorem rtiByte_brkByte (p : Byte) : rtiByte (brkByte p) = ((p ||| 0x04) &&& 0xEF) ||| 0x20 := by
  revert p
  decide

/-! ### What an interrupt entry leaves (60_exceptions.md R267) -/

theorem hiByte_stackCell (sp : Byte) : hiByte (stackCell sp) = 0x01 := by
  rw [stackCell_eq, stackAddr, hiByte_join]

/-- An interrupt entry writes in the stack page only. -/
theorem read_takeInterrupt_of_otherPage {a : Addr} (ha : hiByte a ≠ 0x01) (ret : Addr)
    (pushed live : Byte) (vector : Addr) (s : State) :
    (takeInterrupt ret pushed live vector s).read a = s.read a := by
  by_contra hne
  have hcell : ∃ sp, a = stackCell sp := by
    have hmem := mem_of_read_takeInterrupt_ne hne
    simp only [List.mem_cons, List.not_mem_nil, or_false] at hmem
    obtain h | h | h := hmem <;> exact ⟨_, h⟩
  obtain ⟨sp, rfl⟩ := hcell
  exact ha (hiByte_stackCell sp)

/-- `t` is what an entry that returns to `ret` and pushes the status `pushed` makes of `s`: `PC`, `SP` and
the three stack cells. -/
structure Entered (ret : Addr) (pushed : Byte) (s t : State) : Prop where
  pc : t.pc = join (s.read 0xFFFF) (s.read 0xFFFE)
  sp : t.sp = s.sp - 3
  high : t.read (stackCell s.sp) = hiByte ret
  low : t.read (stackCell (s.sp - 1)) = loByte ret
  status : t.read (stackCell (s.sp - 2)) = pushed

/-- The vector is read after the pushes, which do not reach it. -/
theorem takeInterrupt_entered (ret : Addr) (pushed live : Byte) (s : State) :
    Entered ret pushed s (takeInterrupt ret pushed live irqVector s) where
  pc :=
    calc (takeInterrupt ret pushed live irqVector s).pc
      _ = join ((takeInterrupt ret pushed live irqVector s).read 0xFFFF)
            ((takeInterrupt ret pushed live irqVector s).read 0xFFFE) := rfl
      _ = join (s.read 0xFFFF) (s.read 0xFFFE) := by
        rw [read_takeInterrupt_of_otherPage (by decide), read_takeInterrupt_of_otherPage (by decide)]
  sp := by rw [takeInterrupt_sp]; bv_omega
  high := by rw [stackCell_eq, read_takeInterrupt_high]
  low := by rw [stackCell_eq, read_takeInterrupt_low]
  status := by
    rw [stackCell_eq, show s.sp - 2 = s.sp - 1 - 1 by bv_omega, read_takeInterrupt_status]

/-! ### BRK (49_system.md R250) -/

section Brk

variable {s t : State} (h : exec .brk s = .next t)
include h

/-- BRK leaves the entry that returns to its own address plus 2, whatever I is (decision D25). -/
theorem eq_of_exec_brk :
    t = finish .brk s
      (takeInterrupt (s.pc + 2) (brkByte s.p) (setFlag (brkByte s.p) .B false) irqVector
        (modeState .brk s), false) := by
  have hreturn : (modeState .brk s).pc + 1 = s.pc + 2 := by
    rw [modeState_pc]
    show s.pc + 1 + 1 = s.pc + 2
    bv_omega
  rw [← hreturn, ← modeState_p .brk s]
  exact eq_of_exec h

theorem exec_brk_entered : Entered (s.pc + 2) (brkByte s.p) s t := by
  obtain ⟨hpc, hsp, hhigh, hlow, hstatus⟩ :=
    takeInterrupt_entered (s.pc + 2) (brkByte s.p) (setFlag (brkByte s.p) .B false) (modeState .brk s)
  simp only [modeState_read, modeState_sp] at hpc hsp hhigh hlow hstatus
  rw [eq_of_exec_brk h]
  exact ⟨hpc, hsp, hhigh, hlow, hstatus⟩

theorem exec_brk_p : t.p = setFlag (brkByte s.p) .B false := by
  rw [eq_of_exec_brk h, finish_p, takeInterrupt_p]

end Brk

/-- Settles O46: the entry, the two flags, and the lists of what BRK writes. -/
theorem brkEntersTheHandler : Obligations.BrkEntersTheHandler := by
  intro s
  obtain ⟨t, ht⟩ := exec_isNext .brk s
  obtain ⟨hpc, hsp, hhigh, hlow, hstatus⟩ := exec_brk_entered ht
  refine ⟨t, ht, hpc, hsp, hhigh, hlow, hstatus.trans (brkByte_eq s.p), ?interruptFlag, ?breakFlag,
    exec_frame_of_written ht (by decide) (by decide) fun a ha => ?cells, rfl⟩
  case interruptFlag => simp [exec_brk_p ht, getFlag_brkByte]
  case breakFlag => simp [exec_brk_p ht]
  case cells => simpa [StoresAt, Instr.op, Instr.form] using ha

/-! ### `Irq` and `Nmi` (60_exceptions.md R262 to R267) -/

/-- With I clear an `Irq` is taken (R262). -/
theorem doIrq_of_clear {s : State} (hi : getFlag s.p .I = false) :
    doIrq s = acceptRequest irqVector irqCycles s := by
  simp [doIrq, hi]

/-- With I set an `Irq` is lost (R263). -/
theorem doIrq_of_set {s : State} (hi : getFlag s.p .I = true) : doIrq s = s := by
  simp [doIrq, hi]

theorem event_irq_boundary {s : State} (hr : s.resetSeen = true) (hc : s.cycles = 0) :
    event .irq s = .next (doIrq s) :=
  afterReset_request_boundary doIrq hr hc

/-- `Nmi` has the vector of `Irq` (R266). -/
theorem event_nmi_boundary {s : State} (hr : s.resetSeen = true) (hc : s.cycles = 0) :
    event .nmi s = .next (acceptRequest irqVector nmiCycles s) :=
  afterReset_request_boundary doNmi hr hc

theorem eq_of_event_irq {s t : State} (h : event .irq s = .next t) (hi : getFlag s.p .I = false) :
    t = acceptRequest irqVector irqCycles s := by
  have ht : s.resetSeen = true ∧ s.cycles = 0 ∧ t = doIrq s := by simpa using event_cases h
  obtain ⟨-, -, rfl⟩ := ht
  exact doIrq_of_clear hi

theorem eq_of_event_nmi {s t : State} (h : event .nmi s = .next t) :
    t = acceptRequest irqVector nmiCycles s := by
  have ht : s.resetSeen = true ∧ s.cycles = 0 ∧ t = doNmi s := by simpa using event_cases h
  obtain ⟨-, -, rfl⟩ := ht
  rfl

theorem acceptRequest_entered (n : Nat) (s : State) :
    Entered s.pc (requestByte s.p) s (acceptRequest irqVector n s) :=
  { takeInterrupt_entered s.pc (requestByte s.p) (setFlag (requestByte s.p) .I true) s with }

/-- Besides `PC` and `cycles`, an accepted request changes `SP`, three flags and three cells. -/
theorem acceptRequest_frame (n : Nat) (s : State) :
    FrameBut [.SP] [.I, .B, .U] [stackCell s.sp, stackCell (s.sp - 1), stackCell (s.sp - 2)] s
      (acceptRequest irqVector n s) where
  reg r hr := getReg_acceptRequest (by simpa using hr) irqVector n s
  flag f hf := by
    obtain ⟨hi, hb, hu⟩ : f ≠ .I ∧ f ≠ .B ∧ f ≠ .U := by simpa using hf
    simp [getFlag_requestByte, hi, hb, hu]
  mem a ha := not_not.1 fun hne => ha <|
    mem_of_read_takeInterrupt_ne (by rwa [read_congr (acceptRequest_mem irqVector n s)] at hne)
  config := acceptRequest_config irqVector n s
  resetSeen := acceptRequest_resetSeen irqVector n s
  inputs := by simp [acceptRequest]

/-- What `Irq` and `Nmi` have in common, field by field; `n` is the count of the entry. -/
theorem acceptRequest_entersTheHandler {n : Nat} {s t : State} (ht : t = acceptRequest irqVector n s) :
    t.pc = join (s.read 0xFFFF) (s.read 0xFFFE) ∧ t.sp = s.sp - 3 ∧ t.cycles = n ∧
      t.read (stackCell s.sp) = hiByte s.pc ∧ t.read (stackCell (s.sp - 1)) = loByte s.pc ∧
      t.read (stackCell (s.sp - 2)) = (s.p &&& 0xEF) ||| 0x20 ∧
      getFlag t.p .I = true ∧ getFlag t.p .B = false ∧ getFlag t.p .U = true ∧
      FrameBut [.SP] [.I, .B, .U] [stackCell s.sp, stackCell (s.sp - 1), stackCell (s.sp - 2)] s t ∧
      t.fetched = s.fetched ∧ t.addrAbs = s.addrAbs ∧ t.addrRel = s.addrRel ∧ t.opcode = s.opcode := by
  subst ht
  obtain ⟨hpc, hsp, hhigh, hlow, hstatus⟩ := acceptRequest_entered n s
  refine ⟨hpc, hsp, rfl, hhigh, hlow, hstatus.trans (requestByte_eq s.p), ?interruptFlag, ?breakFlag,
    acceptRequest_sets_U irqVector n s, acceptRequest_frame n s, ?fetched, ?addrAbs,
    acceptRequest_addrRel irqVector n s, ?opcode⟩
  case interruptFlag => simp
  case breakFlag => simp [getFlag_requestByte]
  case fetched => simp [acceptRequest]
  case addrAbs => simp [acceptRequest]
  case opcode => simp [acceptRequest]

/-- Settles O47: with I clear an `Irq` at a Boundary is an accepted request of 7 cycles. -/
theorem irqEntersTheHandler : Obligations.IrqEntersTheHandler := fun _ hr hc hi =>
  ⟨_, event_irq_boundary hr hc, acceptRequest_entersTheHandler (doIrq_of_clear hi)⟩

/-- Settles O49: an `Nmi` at a Boundary is an accepted request of 8 cycles, whatever I is. -/
theorem nmiEntersTheHandler : Obligations.NmiEntersTheHandler := fun _ hr hc =>
  ⟨_, event_nmi_boundary hr hc, acceptRequest_entersTheHandler rfl⟩

/-- Settles O48: the state is the same, and a lost `Irq` has no transactions. -/
theorem maskedIrqIsLost : Obligations.MaskedIrqIsLost := by
  intro s hr hc hi
  have hevent : event .irq s = .next s := by rw [event_irq_boundary hr hc, doIrq_of_set hi]
  exact ⟨hevent, by rw [eventBus_irq hevent, if_pos hi]⟩

/-! ### RTI (49_system.md R251) -/

section Rti

variable {s t : State} (h : exec .rti s = .next t)
include h

theorem eq_of_exec_rti : t = finish .rti s (returnFromInterrupt (modeState .rti s), false) :=
  eq_of_exec h

theorem exec_rti_p : t.p = rtiByte (s.read (stackCell (s.sp + 1))) := by
  rw [eq_of_exec_rti h, finish_p, returnFromInterrupt_p, popByte_modeState]

theorem exec_rti_pc : t.pc = join (s.read (stackCell (s.sp + 3))) (s.read (stackCell (s.sp + 2))) := by
  have htwo : s.sp + 1 + 1 = s.sp + 2 := by bv_omega
  have hthree : s.sp + 1 + 2 = s.sp + 3 := by bv_omega
  rw [eq_of_exec_rti h, finish_pc, returnFromInterrupt_pc, popWord_eq_join_stackCells, popState_sp,
    popState_read, popState_read, modeState_sp, modeState_read, modeState_read, htwo, hthree]

theorem exec_rti_sp : t.sp = s.sp + 3 := by
  rw [eq_of_exec_rti h, finish_sp, returnFromInterrupt_sp, modeState_sp]
  bv_omega

end Rti

/-- Settles O50, field by field. -/
theorem rtiPopsStatusAndPc : Obligations.RtiPopsStatusAndPc := by
  intro s
  obtain ⟨t, ht⟩ := exec_isNext .rti s
  exact ⟨t, ht, exec_rti_p ht, exec_rti_pc ht, exec_rti_sp ht,
    exec_frame_of_not_memoryWriter ht (by decide) (by decide) (by decide), rfl⟩

/-- An RTI that finds `SP` and the three cells as an entry left them takes back what the entry pushed. -/
theorem exec_rti_of_entered {ret : Addr} {pushed : Byte} {s t u v : State} (ht : Entered ret pushed s t)
    (hsp : u.sp = t.sp)
    (hcells : ∀ a ∈ [stackCell s.sp, stackCell (s.sp - 1), stackCell (s.sp - 2)], u.read a = t.read a)
    (hrti : exec .rti u = .next v) : v.pc = ret ∧ v.sp = s.sp ∧ v.p = rtiByte pushed := by
  obtain ⟨hhigh, hlow, hstatus⟩ : u.read (stackCell s.sp) = t.read (stackCell s.sp) ∧
      u.read (stackCell (s.sp - 1)) = t.read (stackCell (s.sp - 1)) ∧
      u.read (stackCell (s.sp - 2)) = t.read (stackCell (s.sp - 2)) := by simpa using hcells
  rw [ht.sp] at hsp
  have hone : u.sp + 1 = s.sp - 2 := by rw [hsp]; bv_omega
  have htwo : u.sp + 2 = s.sp - 1 := by rw [hsp]; bv_omega
  have hthree : u.sp + 3 = s.sp := by rw [hsp]; bv_omega
  refine ⟨?pc, (exec_rti_sp hrti).trans hthree, ?status⟩
  case pc => rw [exec_rti_pc hrti, hthree, htwo, hhigh, hlow, ht.high, ht.low, join_hiByte_loByte]
  case status => rw [exec_rti_p hrti, hone, hstatus, ht.status]

/-- Settles O51: the three entries are of one kind, and RTI undoes it (`exec_rti_of_entered`). -/
theorem rtiReturnsToTheInterruptedProgram : Obligations.RtiReturnsToTheInterruptedProgram := by
  intro s t u v hsp hcells hrti
  have hreturn {ret : Addr} {pushed : Byte} (ht : Entered ret pushed s t) :
      v.pc = ret ∧ v.sp = s.sp ∧ v.p = rtiByte pushed := exec_rti_of_entered ht hsp hcells hrti
  refine ⟨fun hirq hi => ?irq, fun hnmi => ?nmi, fun hbrk => ?brk⟩
  case irq =>
    rw [← rtiByte_requestByte]
    exact hreturn (eq_of_event_irq hirq hi ▸ acceptRequest_entered irqCycles s)
  case nmi =>
    rw [← rtiByte_requestByte]
    exact hreturn (eq_of_event_nmi hnmi ▸ acceptRequest_entered nmiCycles s)
  case brk =>
    rw [← rtiByte_brkByte]
    exact hreturn (exec_brk_entered hbrk)

/-! ### The port wrapper (R273) -/

/-- Two inputs are two steps, when the first event has a next state. -/
theorem runSteps_two_of_inputs {s t : State} {e f : Event} (hi : s.inputs = [e, f])
    (h : event e (s.setInputs [f]) = .next t) : runSteps 2 s = event f (t.setInputs []) := by
  have hstep : step s = .next t := (step_of_inputs_cons hi).trans h
  have hinputs : t.inputs = [f] := (event_outside h).2
  rw [runSteps_succ 1 hstep, runSteps_one, step_of_inputs_cons hinputs]

theorem portInputs_singleton (resetReq nmiReq irqReq : Bool) :
    portInputs [(resetReq, nmiReq, irqReq)] = edgeEvents resetReq nmiReq irqReq := by
  simp [portInputs]

/-- Settles O52: the inputs of one edge are the request served and a `Clock`, or the `Clock` alone. -/
theorem portRequestsHaveAPriority : Obligations.PortRequestsHaveAPriority := by
  intro s t resetReq nmiReq irqReq hi
  rw [portInputs_singleton] at hi
  refine ⟨?reset, ?nmi, ?irq, ?none⟩
  case reset =>
    rintro rfl h
    exact runSteps_two_of_inputs hi h
  case nmi =>
    rintro ⟨rfl, rfl⟩ h
    exact runSteps_two_of_inputs hi h
  case irq =>
    rintro ⟨rfl, rfl, rfl⟩ h
    exact runSteps_two_of_inputs hi h
  case none =>
    rintro ⟨rfl, rfl, rfl⟩
    exact (runSteps_one s).trans (step_of_inputs_cons hi)

/-! ### `Reset` (R260, R261) -/

/-- A second `Reset` changes nothing: memory, and with it the vector, is as the first one found it. -/
theorem doReset_doReset (s : State) : doReset (doReset s) = doReset s := rfl

/-- Settles O1: the fields of `doReset`, and `doReset_doReset`. -/
theorem resetLeavesTheSpecifiedState : Obligations.ResetLeavesTheSpecifiedState := fun s =>
  ⟨doReset s, rfl, rfl, rfl, rfl, rfl, rfl, rfl, rfl, rfl, rfl, rfl, rfl, rfl, rfl, rfl, rfl,
    congrArg Host.Outcome.next (doReset_doReset s)⟩

end Sys2Proof.Machine
